-- ==== Sys2Proof/Word.lean ====
section
/-! DEFINITION. The word types: the byte, and the millisecond time stamp of TS_WIDTH = 32 bits
(00_scope R9, R14; 10_state R28). All values are unsigned. -/

namespace Sys2Proof

/-- A byte; bit 0 is its least significant bit (00_scope R14). -/
abbrev Byte := BitVec 8

/-- A time in milliseconds, `TS_WIDTH` = 32 bits (00_scope R9; 43_timeout_monitor R183). -/
abbrev TimeStamp := BitVec 32

end Sys2Proof
end

