-- ==== Sys2Proof/Syntax.lean ====
section
/-! DEFINITION. The operations, commands and replies of spec/opcode_table.json, one constructor a row
(00_scope R4, 30_encoding R104). -/

namespace Sys2Proof

/-- The four formats of the table: over which value a row is selected (30_encoding R104). -/
inductive Format
  /-- the 4-bit value `state*2 + rx_avail` -/
  | seq
  /-- no selecting bit: the operation runs in every cycle -/
  | chk
  /-- the 16-bit value `payload[0]*256 + payload[1]` -/
  | req
  /-- the length byte of an emitted frame -/
  | rsp
deriving DecidableEq, Repr

/-- One constructor per row of spec/opcode_table.json, in the table's order. The four receiving operations
carry the received byte, their operand (40_framer R121 to R124); `unknown` carries the command pair that
selected it. -/
inductive Instr
  | rxAddr (b : Byte)
  | rxSender (b : Byte)
  | rxLen (b : Byte)
  | rxData (b : Byte)
  | noByte
  | process
  | rspPing
  | rspStatus
  | rspInput
  | timeoutCheck
  | ping
  | status
  | input
  | unknown (payload0 payload1 : Byte)
  | replyPing
  | replyStatus
  | replyInput
deriving DecidableEq, Repr

end Sys2Proof
end

