-- ==== Sys2Proof/WellFormed.lean ====
section
/-! DEFINITION. Which terms of `Instr` are instructions: every one but an `unknown` that carries one of the
three defined command pairs (30_encoding R95; 41_validator_dispatcher R147). -/

namespace Sys2Proof

/-- The three command pairs of 30_encoding R95. -/
def definedPair (payload0 payload1 : Byte) : Bool :=
  payload0 == 0x00 && (payload1 == 0x00 || payload1 == 0x01 || payload1 == 0x02)

def Instr.wf : Instr → Bool
  | .rxAddr _ => true
  | .rxSender _ => true
  | .rxLen _ => true
  | .rxData _ => true
  | .noByte => true
  | .process => true
  | .rspPing => true
  | .rspStatus => true
  | .rspInput => true
  | .timeoutCheck => true
  | .ping => true
  | .status => true
  | .input => true
  | .unknown p0 p1 => !definedPair p0 p1
  | .replyPing => true
  | .replyStatus => true
  | .replyInput => true

/-- An instruction the table has a word for. -/
abbrev WellFormed (i : Instr) : Prop := i.wf = true

end Sys2Proof
end

