-- ==== Sys2Proof/Decode.lean ====
section
/-! DEFINITION. The decoder and the encoder, from spec/opcode_table.json, 30_encoding R104 and 10_state R21.
A word is a list of bytes read in one of the table's four formats. SEQ: the selection value `state*2 + rx_avail`
in the low four bits of a byte, followed, for a receiving operation, by the received byte. CHK: no byte. REQ: the
two payload bytes in wire order. RSP: the length byte of a reply. -/

namespace Sys2Proof

/-- Why a list of bytes is no instruction of a format. -/
inductive DecodeError
  /-- the list ends before the word or its operand byte does -/
  | truncated
  /-- a SEQ byte with one of its bits 7 to 4 set: the selection value has four bits -/
  | notASelection (v : Byte)
  /-- a length byte no reply has -/
  | notAReplyLength (len : Byte)
deriving DecidableEq, Repr

/-- What the decoder answers: the instruction a list of bytes starts with and the rest of the list, or the reason why
it starts with none. -/
inductive Decoded
  | instr (i : Instr) (rest : List Byte)
  | rejected (why : DecodeError)
deriving DecidableEq, Repr

/-- One row of the table: its format, and the mask and match of its selecting value. -/
structure TableRow where
  fmt  : Format
  mask : Nat
  word : Nat
deriving DecidableEq, Repr

/-- The row of spec/opcode_table.json an instruction stands for. -/
def Instr.row : Instr → TableRow
  | .rxAddr _     => ⟨.seq, 0xF, 0x1⟩
  | .rxSender _   => ⟨.seq, 0xF, 0x3⟩
  | .rxLen _      => ⟨.seq, 0xF, 0x5⟩
  | .rxData _     => ⟨.seq, 0xF, 0x7⟩
  | .noByte       => ⟨.seq, 0x9, 0x0⟩
  | .process      => ⟨.seq, 0xE, 0x8⟩
  | .rspPing      => ⟨.seq, 0xE, 0xA⟩
  | .rspStatus    => ⟨.seq, 0xE, 0xC⟩
  | .rspInput     => ⟨.seq, 0xE, 0xE⟩
  | .timeoutCheck => ⟨.chk, 0x0, 0x0⟩
  | .ping         => ⟨.req, 0xFFFF, 0x0000⟩
  | .status       => ⟨.req, 0xFFFF, 0x0001⟩
  | .input        => ⟨.req, 0xFFFF, 0x0002⟩
  | .unknown _ _  => ⟨.req, 0x0000, 0x0000⟩
  | .replyPing    => ⟨.rsp, 0xFF, 0x05⟩
  | .replyStatus  => ⟨.rsp, 0xFF, 0x03⟩
  | .replyInput   => ⟨.rsp, 0xFF, 0x02⟩

/-- "A row matches a value v when v & mask = match" (30_encoding R104). -/
def TableRow.accepts (r : TableRow) (v : Nat) : Bool := (v &&& r.mask) == r.word

/-- A receiving operation with its operand, the received byte. -/
def withOperand (op : Byte → Instr) : List Byte → Decoded
  | [] => .rejected .truncated
  | b :: rest => .instr (op b) rest

/-- Selection by `state*2 + rx_avail` (10_state R21, the SEQ rows of the table). -/
def decodeSeq : List Byte → Decoded
  | [] => .rejected .truncated
  | v :: rest =>
    if v.toNat ≥ 16 then .rejected (.notASelection v)
    else if v.toNat &&& 0xF = 0x1 then withOperand .rxAddr rest
    else if v.toNat &&& 0xF = 0x3 then withOperand .rxSender rest
    else if v.toNat &&& 0xF = 0x5 then withOperand .rxLen rest
    else if v.toNat &&& 0xF = 0x7 then withOperand .rxData rest
    else if v.toNat &&& 0x9 = 0x0 then .instr .noByte rest
    else if v.toNat &&& 0xE = 0x8 then .instr .process rest
    else if v.toNat &&& 0xE = 0xA then .instr .rspPing rest
    else if v.toNat &&& 0xE = 0xC then .instr .rspStatus rest
    else if v.toNat &&& 0xE = 0xE then .instr .rspInput rest
    else .rejected (.notASelection v)

/-- Selection by the command pair, rows in priority order (30_encoding R95, R104): whole bytes compared
(41_validator_dispatcher R143). -/
def decodeReq : List Byte → Decoded
  | p0 :: p1 :: rest =>
    let v := p0.toNat * 256 + p1.toNat
    if v = 0x0000 then .instr .ping rest
    else if v = 0x0001 then .instr .status rest
    else if v = 0x0002 then .instr .input rest
    else .instr (.unknown p0 p1) rest
  | [_] => .rejected .truncated
  | [] => .rejected .truncated

/-- Selection by the length byte of an emitted frame (30_encoding R98, R104). -/
def decodeRsp : List Byte → Decoded
  | [] => .rejected .truncated
  | len :: rest =>
    if len.toNat = 0x05 then .instr .replyPing rest
    else if len.toNat = 0x03 then .instr .replyStatus rest
    else if len.toNat = 0x02 then .instr .replyInput rest
    else .rejected (.notAReplyLength len)

/-- The decoder: the instruction a list of bytes starts with, read in a format, and the rest of the list. -/
def decode : Format → List Byte → Decoded
  | .seq, bytes => decodeSeq bytes
  | .chk, bytes => .instr .timeoutCheck bytes
  | .req, bytes => decodeReq bytes
  | .rsp, bytes => decodeRsp bytes

/-- The encoder: the bytes of an instruction in its row's format. Don't-care bits are 0. -/
def encode : Instr → List Byte
  | .rxAddr b      => [0x01, b]
  | .rxSender b    => [0x03, b]
  | .rxLen b       => [0x05, b]
  | .rxData b      => [0x07, b]
  | .noByte        => [0x00]
  | .process       => [0x08]
  | .rspPing       => [0x0A]
  | .rspStatus     => [0x0C]
  | .rspInput      => [0x0E]
  | .timeoutCheck  => []
  | .ping          => [0x00, 0x00]
  | .status        => [0x00, 0x01]
  | .input         => [0x00, 0x02]
  | .unknown p0 p1 => [p0, p1]
  | .replyPing     => [0x05]
  | .replyStatus   => [0x03]
  | .replyInput    => [0x02]

/-- The instruction of a decoding, if there is one. -/
def decodedInstr (r : Decoded) : Option Instr :=
  match r with
  | .instr i _ => some i
  | .rejected _ => none

/-- The instruction a table word stands for. No selecting bit at all is the CHK row; up to 8 bits are a SEQ
selection byte with a zero operand byte behind it; 16 bits are a command pair, `payload[0]` in bits 15..8. The
RSP rows have 8-bit words that the SEQ rows have too, and the SEQ reading is taken (log entry 7). -/
def decodeTableWord (nbits w : Nat) : Option Instr :=
  if nbits = 0 then decodedInstr (decode .chk [])
  else if nbits ≤ 8 then decodedInstr (decode .seq [BitVec.ofNat 8 w, 0x00])
  else decodedInstr (decode .req [BitVec.ofNat 8 (w / 256), BitVec.ofNat 8 w])

end Sys2Proof
end

