-- ==== Sys2Proof/Config.lean ====
section
/-! DEFINITION. What is fixed for one block (00_scope R9, 10_state R32), the inputs of one polling cycle
(10_state R34), and the free values (log entries 2, 6 and 13). -/

namespace Sys2Proof

/-- The order of the two phases of a polling cycle, `CYCLE_ORDER` (44_polling_cycle R200). -/
inductive CycleOrder
  | framerFirst
  | timeoutFirst
deriving DecidableEq, Repr, Inhabited

/-- The serial number: four independent bytes, sent in index order (20_memory R70). -/
structure Serial where
  s0 : Byte
  s1 : Byte
  s2 : Byte
  s3 : Byte
deriving DecidableEq, Repr, Inhabited

/-- The configuration: supplied at startup, constant over a run (00_scope R9, 10_state R32). -/
structure Config where
  ownAddr    : Byte
  serial     : Serial
  timeoutMs  : TimeStamp
  cycleOrder : CycleOrder
deriving DecidableEq, Repr, Inhabited

/-- The configuration `State.reset` is supplied with. The bound 15 and the order are the spec's
(10_state R33; 00_scope R9 with decision D3); the address and the serial number are those of the spec's examples.
DESIGN CHOICE, log entry 1. -/
def Config.reference : Config :=
  { ownAddr := 0x02, serial := ⟨0xDE, 0xAD, 0xBE, 0xEF⟩, timeoutMs := 15, cycleOrder := .framerFirst }

/-- What the environment supplies to one polling cycle (10_state R34): the time sample, the bytes that
have newly arrived at the byte source (in arrival order), the level of the input pin. -/
structure CycleInput where
  now      : TimeStamp
  arrivals : List Byte
  pin      : Bool
deriving DecidableEq, Repr, Inhabited

/-- FREE VALUE: the inputs of polling cycle `n` once the stimulus script is used up
(93_implementation_defined U8, U13; 92_eei_decisions D2, D20). Log entry 2. -/
opaque Config.freeInput : Nat → CycleInput

/-- FREE VALUE: the byte a load of buffer cell `i` gives in cycle `n` where the buffer has no cell `i`
(00_scope R15, 20_memory R62). Log entry 6. -/
opaque Config.freeCell : Nat → Nat → Byte

/-- FREE VALUE: byte `i` of `tx_bytes` where the clocked interface gives it no meaning, in cycle `n`
(44_polling_cycle R208). Log entry 13. -/
opaque Config.freeTxByte : Nat → Nat → Byte

/-- FREE VALUE: `rx_byte` in a cycle `n` whose `rx_avail` is 0 (20_memory R65). Log entry 13. -/
opaque Config.freeRxByte : Nat → Byte

/-- FREE VALUE: `tx_count` in a cycle `n` whose `tx_valid` is 0 (44_polling_cycle R208). Log entry 13. -/
opaque Config.freeTxCount : Nat → BitVec 4

end Sys2Proof
end

