-- ==== Sys2Proof/Machine/State.lean ====
section
/-! DEFINITION. The machine's state as plain data: the Session State of 10_state R20 to R30, the configuration
(R32), the inputs of the cycle being run (R34), the environment's plan (log entry 2), the byte sink and the
outputs of the last cycle (44_polling_cycle R202, R207); the reasons a step can stop; the reset state
(10_state R36). -/

namespace Sys2Proof.Machine

/-- The eight values of the register `state` (10_state R21). An enumeration; the numeric codes are in
`Phase.code`. -/
inductive Phase
  | waitAddr
  | getSender
  | getLen
  | gatherData
  | processData
  | pingResponse
  | statusResponse
  | inputResponse
deriving DecidableEq, Repr

/-- The error kinds of 60_exceptions R220, the model's event names (44_polling_cycle R202). -/
inductive Event
  | checksumMismatch
  | frameTimeout
  | unknownCommand
  | foreignAddress
  | malformedLength
deriving DecidableEq, Repr

/-- Why the machine stops with a fault: never. "There is no fault state and no stuck state: `Step` is total"
(44_polling_cycle R207). -/
inductive Fault
deriving DecidableEq, Repr

/-- Why the machine refuses an instruction. -/
inductive Refusal
  /-- Raised by an arm of `exec` whose instruction has no meaning yet; no arm is left so. Safe. -/
  | notModelled (mnemonic : String)
deriving DecidableEq, Repr

/-- Memory: (address, byte) pairs in canonical form (`Memory.wf`). An address not listed reads as 0x00, the value
of the zero fill (10_state R35, R36). -/
abbrev Memory := List Host.Cell

/-- The machine. -/
structure State where
  -- Session State (10_state R20)
  /-- the phase register (R21) -/
  state                 : Phase
  /-- second byte of the current frame (R23) -/
  senderAddr            : Byte
  /-- third byte of the current frame (R24) -/
  expectedLen           : Byte
  /-- bytes received after the length byte, modulo 256 (R25) -/
  byteCount             : Byte
  /-- the frame is consumed and dropped (R26) -/
  ignoreFrame           : Bool
  /-- 32 cells, payload and checksum byte (R27) -/
  payloadBuffer         : Memory
  /-- time of the last received byte (R28) -/
  lastActivityTimestamp : TimeStamp
  /-- ChecksumMismatch events, modulo 256 (R29) -/
  checksumErrorCount    : Byte
  /-- FrameTimeout events, modulo 256 (R30) -/
  timeoutErrorCount     : Byte
  -- configuration (R32): no step writes it
  cfg                   : Config
  -- inputs of the cycle (R34)
  /-- the cycle's time sample -/
  now                   : TimeStamp
  /-- the cycle's pin sample, true for a high level -/
  pin                   : Bool
  /-- the byte source: bytes that arrived and were not taken, oldest first (20_memory R63) -/
  rxSource              : List Byte
  -- the environment's plan, the model's own (log entry 2)
  /-- the inputs of the cycles to come, the next one first -/
  script                : List CycleInput
  /-- polling cycles begun; numbers the free values: inputs after the script, cells the buffer does not have -/
  cycle                 : Nat
  -- outputs
  /-- bytes emitted in the last cycle (44_polling_cycle R202) -/
  tx                    : List Byte
  /-- a byte was taken in the last cycle (44_polling_cycle R202) -/
  rxTake                : Bool
  /-- events raised in the last cycle, in order (44_polling_cycle R202) -/
  events                : List Event
  /-- the byte sink: every byte emitted, in order (20_memory R66) -/
  txSink                : List Byte
  /-- how many bytes were taken (44_polling_cycle R207) -/
  bytesTaken            : Nat
deriving DecidableEq, Repr

/-- The reset state (10_state R36, 70_reset_and_hazards R251) of a block supplied with the configuration `cfg`. -/
def State.resetWith (cfg : Config) : State :=
  { state := .waitAddr, senderAddr := 0x00, expectedLen := 0x00, byteCount := 0x00, ignoreFrame := false,
    payloadBuffer := [], lastActivityTimestamp := 0, checksumErrorCount := 0x00, timeoutErrorCount := 0x00,
    cfg := cfg, now := 0, pin := false, rxSource := [], script := [], cycle := 0,
    tx := [], rxTake := false, events := [], txSink := [], bytesTaken := 0 }

/-- The machine right after reset, with the reference configuration (log entries 1 to 5). -/
def State.reset : State := State.resetWith Config.reference

end Sys2Proof.Machine
end

