-- ==== Sys2Proof/Machine/Ops.lean ====
section
/-! DEFINITION. The named operations over memory and registers, written once: the payload buffer
(20_memory R60 to R62), the arithmetic of 00_scope R15, receiving a byte (40_framer R120), emitting
(20_memory R66), the per-frame reset (10_state R35), raising an error (60_exceptions R228), the hardware
reset (70_reset_and_hazards R250), sampling a cycle's inputs (10_state R34). -/

namespace Sys2Proof.Machine

/-! ### The payload buffer -/

/-- `BUF_CAP`, the number of cells (00_scope R9, 10_state R27). -/
def bufCap : Nat := 32

/-- The byte at an address; 0x00 where nothing is listed (10_state R35). -/
def Memory.read : Memory → Nat → Byte
  | [], _ => 0x00
  | (k, v) :: rest, a => if a = k then v else Memory.read rest a

/-- Write one byte and keep the canonical form. -/
def Memory.write : Memory → Nat → Byte → Memory
  | [], a, v => if v = 0x00 then [] else [(a, v)]
  | (k, w) :: rest, a, v =>
    if a < k then (if v = 0x00 then (k, w) :: rest else (a, v) :: (k, w) :: rest)
    else if a = k then (if v = 0x00 then rest else (a, v) :: rest)
    else (k, w) :: Memory.write rest a v

/-- The canonical form from address `lo` up: addresses strictly rising and below `bufCap`, no zero listed. -/
def Memory.wfFrom : Nat → Memory → Bool
  | _, [] => true
  | lo, (k, v) :: rest => decide (lo ≤ k) && decide (k < bufCap) && v != 0x00 && Memory.wfFrom (k + 1) rest

/-- The memory is in its one canonical form. -/
def Memory.wf (m : Memory) : Bool := Memory.wfFrom 0 m

/-- `MemWrite(i, 1, v)` of `RX_DATA`: at or above `bufCap` the byte is discarded (20_memory R61). -/
def Memory.store (m : Memory) (i : Nat) (v : Byte) : Memory :=
  if i < bufCap then m.write i v else m

/-- `MemRead(i, 1)` of `PROCESS` (20_memory R62): cell `i`, or a free value where the buffer has no cell `i`
(log entry 6). -/
def State.load (s : State) (i : Nat) : Byte :=
  if i < bufCap then s.payloadBuffer.read i else Config.freeCell s.cycle i

/-! ### Arithmetic (00_scope R15) -/

/-- `(v + 1) mod 256`. -/
def add8 (v : Byte) : Byte := v + 1

/-- `(a - b) mod 2^TS_WIDTH`. -/
def subTs (a b : TimeStamp) : TimeStamp := a - b

/-- `XOR(list)`; 0x00 for the empty list (00_scope R14). -/
def xorAll : List Byte → Byte
  | [] => 0x00
  | b :: rest => b ^^^ xorAll rest

/-! ### Operations on the state -/

/-- What every receiving operation does besides its own register (40_framer R120): one byte leaves the source,
`rx_take` is 1, the timestamp is refreshed with the cycle's time sample. -/
def State.receive (s : State) : State :=
  { s with lastActivityTimestamp := s.now, rxSource := s.rxSource.tail, rxTake := true,
           bytesTaken := s.bytesTaken + 1 }

/-- `Emit(list)`: the bytes go to the sink in order; it always accepts (20_memory R66, R67). -/
def State.emit (s : State) (bytes : List Byte) : State :=
  { s with tx := s.tx ++ bytes, txSink := s.txSink ++ bytes }

/-- `ResetSession()` (10_state R35): counters and timestamp unchanged. -/
def State.resetSession (s : State) : State :=
  { s with state := .waitAddr, senderAddr := 0x00, expectedLen := 0x00, byteCount := 0x00,
           ignoreFrame := false, payloadBuffer := [] }

/-- `raise <Error>` (00_scope R15, 60_exceptions R228), the one way every error is taken: the event is recorded
and `ResetSession()` runs. The counter of the error, if it has one, is updated by the rule that raises. Nothing
is saved and there is no return (60_exceptions R228, R229). -/
def State.raise (s : State) (e : Event) : State :=
  { s.resetSession with events := s.events ++ [e] }

/-- `checksumErrorCount <- add8(checksumErrorCount)` (10_state R29). -/
def State.countChecksumError (s : State) : State :=
  { s with checksumErrorCount := add8 s.checksumErrorCount }

/-- `timeoutErrorCount <- add8(timeoutErrorCount)` (10_state R30). -/
def State.countTimeoutError (s : State) : State :=
  { s with timeoutErrorCount := add8 s.timeoutErrorCount }

/-- `state <- X`. -/
def State.goto (s : State) (p : Phase) : State := { s with state := p }

/-- A clock edge with `rst = 1` (70_reset_and_hazards R250): every register takes its reset value, no byte is
taken, nothing is emitted, no polling cycle is performed. The configuration, the byte source and what was put on
the bus before are not registers of the block. -/
def State.hardReset (s : State) : State :=
  { s with state := .waitAddr, senderAddr := 0x00, expectedLen := 0x00, byteCount := 0x00,
           ignoreFrame := false, payloadBuffer := [], lastActivityTimestamp := 0,
           checksumErrorCount := 0x00, timeoutErrorCount := 0x00,
           tx := [], rxTake := false, events := [] }

/-- The inputs of the next cycle: the script's next entry, or a free value once it is used up (log entry 2). -/
def State.nextInput (s : State) : CycleInput :=
  match s.script with
  | inp :: _ => inp
  | [] => Config.freeInput s.cycle

/-- The start of a polling cycle: `now` and `pin` are sampled (10_state R34), the arrivals queue up behind the
bytes not yet taken (44_polling_cycle R202), and the last cycle's outputs are cleared. -/
def State.beginCycle (s : State) : State :=
  { s with now := s.nextInput.now, pin := s.nextInput.pin, rxSource := s.rxSource ++ s.nextInput.arrivals,
           script := s.script.tail, cycle := s.cycle + 1, tx := [], rxTake := false, events := [] }

/-- Run a second phase on the state the first one left, stopping where the first one stops. -/
def andThen (r : Host.Outcome State Fault Refusal) (next : State → Host.Outcome State Fault Refusal) :
    Host.Outcome State Fault Refusal :=
  match r with
  | .next t => next t
  | .fault f => .fault f
  | .refused f => .refused f

end Sys2Proof.Machine
end

