-- ==== Sys2Proof/Machine/Operands.lean ====
section
/-! DEFINITION. The operand forms: the codes of the phase register and the selection value (10_state R21,
30_encoding R104), the command pair (41_validator_dispatcher R143), the verification buffer (R141), the pin byte
and the reply frames (42_responder R160 to R165). -/

namespace Sys2Proof.Machine

/-- The 3-bit code of a phase (10_state R21). No rule depends on it but the selection value. -/
def Phase.code : Phase → Nat
  | .waitAddr       => 0
  | .getSender      => 1
  | .getLen         => 2
  | .gatherData     => 3
  | .processData    => 4
  | .pingResponse   => 5
  | .statusResponse => 6
  | .inputResponse  => 7

/-- The phase with a code (10_state R21); codes are taken modulo 8. -/
def phaseOfCode (n : Nat) : Phase :=
  match n % 8 with
  | 0 => .waitAddr
  | 1 => .getSender
  | 2 => .getLen
  | 3 => .gatherData
  | 4 => .processData
  | 5 => .pingResponse
  | 6 => .statusResponse
  | _ => .inputResponse

/-- The four phases in which the Framer phase polls the byte source (20_memory R64). -/
def Phase.receiving : Phase → Bool
  | .waitAddr       => true
  | .getSender      => true
  | .getLen         => true
  | .gatherData     => true
  | .processData    => false
  | .pingResponse   => false
  | .statusResponse => false
  | .inputResponse  => false

/-- The three response phases (42_responder R160). -/
def Phase.responding : Phase → Bool
  | .waitAddr       => false
  | .getSender      => false
  | .getLen         => false
  | .gatherData     => false
  | .processData    => false
  | .pingResponse   => true
  | .statusResponse => true
  | .inputResponse  => true

/-- `rx_offer`, the answer `RxPoll()` would give (20_memory R63): the oldest byte not yet taken. -/
def State.rxOffer (s : State) : Option Byte := s.rxSource.head?

/-- `state*2 + rx_avail` (30_encoding R104). -/
def State.selection (s : State) : Byte :=
  BitVec.ofNat 8 (s.state.code * 2 + (if s.rxOffer.isSome then 1 else 0))

/-- What the SEQ decoder reads in this state: the selection value, then the byte source. -/
def State.fetchBytes (s : State) : List Byte := s.selection :: s.rxSource

/-- `buf[0]` and `buf[1]`, the command pair (41_validator_dispatcher R143). Cell 1 is read even when only one
byte was stored (20_memory R62). -/
def State.commandPair (s : State) : List Byte := [s.payloadBuffer.read 0, s.payloadBuffer.read 1]

/-- "own address, senderAddr, expectedLen, payloadBuffer[0..byteCount)" (41_validator_dispatcher R141). -/
def State.verificationBuffer (s : State) : List Byte :=
  [s.cfg.ownAddr, s.senderAddr, s.expectedLen] ++ (List.range s.byteCount.toNat).map s.load

/-- The serial number in index order (42_responder R163). -/
def serialBytes (n : Serial) : List Byte := [n.s0, n.s1, n.s2, n.s3]

/-- `zext_8(pin)`: bit 0 is the level, bits 7 to 1 are 0 (42_responder R165). -/
def pinByte (pin : Bool) : Byte := if pin then 0x01 else 0x00

/-- A reply frame (42_responder R160 to R162): addresses, length, payload, and in the checksum slot the
exclusive-or of the frame with that slot zero. -/
def State.replyFrame (s : State) (len : Byte) (payload : List Byte) : List Byte :=
  let unsealed := [s.senderAddr, s.cfg.ownAddr, len] ++ payload
  unsealed ++ [xorAll (unsealed ++ [0x00])]

/-- The Ping reply (30_encoding R99, 42_responder R163). -/
def State.pingReply (s : State) : List Byte := s.replyFrame 0x05 (serialBytes s.cfg.serial)

/-- The Status reply (30_encoding R100, 42_responder R164). -/
def State.statusReply (s : State) : List Byte :=
  s.replyFrame 0x03 [s.checksumErrorCount, s.timeoutErrorCount]

/-- The Input reply (30_encoding R101, 42_responder R165). -/
def State.inputReply (s : State) : List Byte := s.replyFrame 0x02 [pinByte s.pin]

end Sys2Proof.Machine
end

