-- ==== Sys2Proof/Machine/Flags.lean ====
section
/-! DEFINITION. The conditions the operations test: the two that set `ignoreFrame` (10_state R26), the checksum
residue (41_validator_dispatcher R141), the watchdog's condition (43_timeout_monitor R180). There is no carry,
zero, overflow or sign flag (10_state R26). -/

namespace Sys2Proof.Machine

/-- What `RX_ADDR` writes to `ignoreFrame` (40_framer R121). -/
def foreignAddr (own b : Byte) : Bool := b != own

/-- A malformed length: 0 or above `BUF_CAP` (40_framer R123, 60_exceptions R225). -/
def malformedLen (len : Byte) : Bool := len == 0x00 || decide (bufCap < len.toNat)

/-- `x`, the exclusive-or of the verification buffer (41_validator_dispatcher R141). -/
def State.checksumResidue (s : State) : Byte := xorAll s.verificationBuffer

/-- Milliseconds since the last received byte (43_timeout_monitor R183). -/
def State.elapsed (s : State) : TimeStamp := subTs s.now s.lastActivityTimestamp

/-- The condition of `TIMEOUT_CHECK` (43_timeout_monitor R180): strict, unsigned, in every phase but `WaitAddr`. -/
def State.expired (s : State) : Bool :=
  s.state != .waitAddr && decide (s.cfg.timeoutMs.toNat < s.elapsed.toNat)

end Sys2Proof.Machine
end

