-- ==== Sys2Proof/Machine/Framer.lean ====
section
/-! DEFINITION. The Framer: RX_ADDR, RX_SENDER, RX_LEN, RX_DATA, NOBYTE (40_framer R120 to R125). -/

namespace Sys2Proof.Machine

/-- `RX_ADDR(b)` (40_framer R121). -/
def execRxAddr (b : Byte) (s : State) : Host.Outcome State Fault Refusal :=
  .next { s.receive with ignoreFrame := foreignAddr s.cfg.ownAddr b, state := .getSender }

/-- `RX_SENDER(b)` (40_framer R122). -/
def execRxSender (b : Byte) (s : State) : Host.Outcome State Fault Refusal :=
  .next { s.receive with senderAddr := b, state := .getLen }

/-- `RX_LEN(b)` (40_framer R123): a malformed length sets the flag and never clears it. -/
def execRxLen (b : Byte) (s : State) : Host.Outcome State Fault Refusal :=
  .next { s.receive with expectedLen := b, ignoreFrame := s.ignoreFrame || malformedLen b,
                         state := .gatherData }

/-- `RX_DATA(b)` (40_framer R124): the store goes to cell `byteCount`, the comparison uses the new count. -/
def execRxData (b : Byte) (s : State) : Host.Outcome State Fault Refusal :=
  .next { s.receive with
    payloadBuffer := s.payloadBuffer.store s.byteCount.toNat b
    byteCount := add8 s.byteCount
    state := if add8 s.byteCount = s.expectedLen then .processData else s.state }

/-- `NOBYTE` (40_framer R125): "stay". -/
def execNoByte (s : State) : Host.Outcome State Fault Refusal := .next s

end Sys2Proof.Machine
end

