-- ==== Sys2Proof/Machine/Monitor.lean ====
section
/-! DEFINITION. The Timeout Monitor: TIMEOUT_CHECK (43_timeout_monitor R180 to R183), and the watchdog counter of
R185, the same function in another form. -/

namespace Sys2Proof.Machine

/-- `TIMEOUT_CHECK` (43_timeout_monitor R180, R181). -/
def execTimeoutCheck (s : State) : Host.Outcome State Fault Refusal :=
  .next (if s.expired then s.countTimeoutError.raise .frameTimeout else s)

/-- The watchdog counter of 43_timeout_monitor R185 over one cycle: "cleared by each receiving operation and
advanced by the number of milliseconds that passed since the previous cycle". -/
def watchdogNext (w advance : TimeStamp) (received : Bool) : TimeStamp :=
  if received then 0 else w + advance

/-- "fire when state != WaitAddr and w > TIMEOUT_MS" (43_timeout_monitor R185). -/
def watchdogFires (p : Phase) (w timeoutMs : TimeStamp) : Bool :=
  p != .waitAddr && decide (timeoutMs.toNat < w.toNat)

end Sys2Proof.Machine
end

