-- ==== Sys2Proof/Machine/Responder.lean ====
section
/-! DEFINITION. The Responder: RSP_PING, RSP_STATUS, RSP_INPUT (42_responder R160 to R166) and the replies they
emit, REPLY_PING, REPLY_STATUS, REPLY_INPUT (30_encoding R99 to R101). A reply row is the emission of its frame;
the response operation is that emission and then `ResetSession()` (log entry 8). -/

namespace Sys2Proof.Machine

/-- `REPLY_PING` (30_encoding R99). -/
def execReplyPing (s : State) : Host.Outcome State Fault Refusal := .next (s.emit s.pingReply)

/-- `REPLY_STATUS` (30_encoding R100). -/
def execReplyStatus (s : State) : Host.Outcome State Fault Refusal := .next (s.emit s.statusReply)

/-- `REPLY_INPUT` (30_encoding R101). -/
def execReplyInput (s : State) : Host.Outcome State Fault Refusal := .next (s.emit s.inputReply)

/-- `RSP_PING` (42_responder R163). -/
def execRspPing (s : State) : Host.Outcome State Fault Refusal := .next (s.emit s.pingReply).resetSession

/-- `RSP_STATUS` (42_responder R164). -/
def execRspStatus (s : State) : Host.Outcome State Fault Refusal := .next (s.emit s.statusReply).resetSession

/-- `RSP_INPUT` (42_responder R165). -/
def execRspInput (s : State) : Host.Outcome State Fault Refusal := .next (s.emit s.inputReply).resetSession

end Sys2Proof.Machine
end

