-- ==== Sys2Proof/Machine/Commands.lean ====
section
/-! DEFINITION. The Dispatcher's commands: PING, STATUS, INPUT, UNKNOWN (41_validator_dispatcher R143 to R147). -/

namespace Sys2Proof.Machine

/-- `PING` (41_validator_dispatcher R144). -/
def execPing (s : State) : Host.Outcome State Fault Refusal := .next (s.goto .pingResponse)

/-- `STATUS` (41_validator_dispatcher R145). -/
def execStatus (s : State) : Host.Outcome State Fault Refusal := .next (s.goto .statusResponse)

/-- `INPUT` (41_validator_dispatcher R146). -/
def execInput (s : State) : Host.Outcome State Fault Refusal := .next (s.goto .inputResponse)

/-- `UNKNOWN` (41_validator_dispatcher R147): UnknownCommand is raised, no counter moves, whatever the pair. -/
def execUnknown (_payload0 _payload1 : Byte) (s : State) : Host.Outcome State Fault Refusal :=
  .next (s.raise .unknownCommand)

/-- The dispatch on the command pair, in the order of 41_validator_dispatcher R139. -/
def dispatchPair (payload0 payload1 : Byte) (s : State) : Host.Outcome State Fault Refusal :=
  if payload0 = 0x00 ∧ payload1 = 0x00 then execPing s
  else if payload0 = 0x00 ∧ payload1 = 0x01 then execStatus s
  else if payload0 = 0x00 ∧ payload1 = 0x02 then execInput s
  else execUnknown payload0 payload1 s

end Sys2Proof.Machine
end

