-- ==== Sys2Proof/Machine/Validator.lean ====
section
/-! DEFINITION. The Validator: PROCESS (41_validator_dispatcher R139 to R143, R148). -/

namespace Sys2Proof.Machine

/-- The end of an ignored frame (41_validator_dispatcher R140): MalformedLength or ForeignAddress, no counter. -/
def dropIgnored (s : State) : State :=
  if malformedLen s.expectedLen then s.raise .malformedLength else s.raise .foreignAddress

/-- `PROCESS` (41_validator_dispatcher R139): ignore test, then checksum test, then dispatch. -/
def execProcess (s : State) : Host.Outcome State Fault Refusal :=
  if s.ignoreFrame then .next (dropIgnored s)
  else if s.checksumResidue ≠ 0x00 then .next (s.countChecksumError.raise .checksumMismatch)
  else dispatchPair (s.payloadBuffer.read 0) (s.payloadBuffer.read 1) s

end Sys2Proof.Machine
end

