-- ==== Sys2Proof/Machine/Dispatch.lean ====
section
/-! DEFINITION. exec: one arm per row of spec/opcode_table.json. -/

namespace Sys2Proof.Machine

def exec (i : Instr) (s : State) : Host.Outcome State Fault Refusal :=
  match i with
  | .rxAddr b => Sys2Proof.Machine.execRxAddr b s
  | .rxSender b => Sys2Proof.Machine.execRxSender b s
  | .rxLen b => Sys2Proof.Machine.execRxLen b s
  | .rxData b => Sys2Proof.Machine.execRxData b s
  | .noByte => Sys2Proof.Machine.execNoByte s
  | .process => Sys2Proof.Machine.execProcess s
  | .rspPing => Sys2Proof.Machine.execRspPing s
  | .rspStatus => Sys2Proof.Machine.execRspStatus s
  | .rspInput => Sys2Proof.Machine.execRspInput s
  | .timeoutCheck => Sys2Proof.Machine.execTimeoutCheck s
  | .ping => Sys2Proof.Machine.execPing s
  | .status => Sys2Proof.Machine.execStatus s
  | .input => Sys2Proof.Machine.execInput s
  | .unknown p0 p1 => Sys2Proof.Machine.execUnknown p0 p1 s
  | .replyPing => Sys2Proof.Machine.execReplyPing s
  | .replyStatus => Sys2Proof.Machine.execReplyStatus s
  | .replyInput => Sys2Proof.Machine.execReplyInput s

end Sys2Proof.Machine
end

