-- ==== Sys2Proof/Machine/Cycle.lean ====
section
/-! DEFINITION. The polling cycle (44_polling_cycle R200, R201): the operation a phase and the byte source select,
the two phases of a cycle and their order; and the states in which a given table word is the next to be
selected. -/

namespace Sys2Proof.Machine

/-- The operation of the Framer phase (44_polling_cycle R201; the table of 10_state R21). -/
def selectOperation : Phase → Option Byte → Instr
  | .waitAddr,       some b => .rxAddr b
  | .getSender,      some b => .rxSender b
  | .getLen,         some b => .rxLen b
  | .gatherData,     some b => .rxData b
  | .waitAddr,       none   => .noByte
  | .getSender,      none   => .noByte
  | .getLen,         none   => .noByte
  | .gatherData,     none   => .noByte
  | .processData,    _      => .process
  | .pingResponse,   _      => .rspPing
  | .statusResponse, _      => .rspStatus
  | .inputResponse,  _      => .rspInput

/-- The Framer phase: exactly one operation, chosen by the phase it starts in (44_polling_cycle R201). -/
def framerPhase (s : State) : Host.Outcome State Fault Refusal :=
  exec (selectOperation s.state s.rxOffer) s

/-- The Timeout Monitor phase (44_polling_cycle R200). -/
def monitorPhase (s : State) : Host.Outcome State Fault Refusal := exec .timeoutCheck s

/-- The two phases in the order of `CYCLE_ORDER`, on one sample of the inputs (44_polling_cycle R200). -/
def runPhases (s : State) : Host.Outcome State Fault Refusal :=
  match s.cfg.cycleOrder with
  | .framerFirst  => andThen (framerPhase s) monitorPhase
  | .timeoutFirst => andThen (monitorPhase s) framerPhase

/-- One polling cycle: sample the inputs, run the phases. -/
def pollingCycle (s : State) : Host.Outcome State Fault Refusal := runPhases s.beginCycle

/-- The inputs of a cycle in which no time has passed since the last byte and nothing arrives. -/
def State.quietInput (s : State) : CycleInput :=
  { now := s.lastActivityTimestamp, arrivals := [], pin := s.pin }

/-- `s` with a SEQ word selected next: the phase of bits 3..1, a byte on offer where bit 0 is 1 (its operand, bits
15..8), and a cycle input for the step to run on. -/
def State.placeSelection (s : State) (w : Nat) : State :=
  { s with state := phaseOfCode (w / 2)
           rxSource := if w % 2 = 1 then [BitVec.ofNat 8 (w / 256)] else []
           script := s.quietInput :: s.script }

/-- `s` about to run `PROCESS` on a good addressed frame of length 3 with the command pair of a REQ word. -/
def State.placeCommand (s : State) (w : Nat) : State :=
  let p0 : Byte := BitVec.ofNat 8 (w / 256)
  let p1 : Byte := BitVec.ofNat 8 w
  { s with state := .processData
           ignoreFrame := false
           expectedLen := 0x03
           byteCount := 0x03
           payloadBuffer := ((Memory.store [] 0 p0).store 1 p1).store 2
             (xorAll [s.cfg.ownAddr, s.senderAddr, 0x03, p0, p1])
           script := s.quietInput :: s.script }

/-- `s` with a table word selected next, read as `decodeTableWord` reads it: no bits, `TIMEOUT_CHECK`, which every
cycle runs; up to 8 bits, a SEQ word; else a command pair. -/
def State.placeWord (s : State) (nbits w : Nat) : State :=
  if nbits = 0 then { s with script := s.quietInput :: s.script }
  else if nbits ≤ 8 then s.placeSelection w
  else s.placeCommand w

end Sys2Proof.Machine
end

