-- ==== Sys2Proof/Machine/Step.lean ====
section
/-! DEFINITION. The step: one polling cycle (00_scope R12, 44_polling_cycle R200); and the state whose next step
runs a given table word. -/

namespace Sys2Proof.Machine

/-- One polling cycle. -/
def step (s : State) : Host.Outcome State Fault Refusal := pollingCycle s

/-- `s` with the table word `w` of `nbits` bits placed where the next step selects its operation (log entries 7
and 11). -/
def State.withFetchWord (s : State) (nbits w : Nat) : State := s.placeWord nbits w

end Sys2Proof.Machine
end

