-- ==== Sys2Proof/Machine/Clocked.lean ====
section
/-! DEFINITION. The clocked rendering of the step (44_polling_cycle R208, 20_memory R65, R67,
70_reset_and_hazards R250): "nothing in the other files depends on it", and nothing of the model does. Log
entries 13 and 21. -/

namespace Sys2Proof.Machine

/-- The input ports of 44_polling_cycle R208, besides `clk`. -/
structure InPorts where
  rst          : Bool
  stepEn       : Bool
  rxAvail      : Bool
  rxByte       : Byte
  now          : TimeStamp
  pinIn        : Bool
  cfgOwnAddr   : Byte
  cfgSerial    : Serial
  cfgTimeoutMs : TimeStamp
deriving DecidableEq, Repr

/-- The output ports of 44_polling_cycle R208. `txBytes` has eight entries, byte 0 first. -/
structure OutPorts where
  rxTake            : Bool
  txValid           : Bool
  txCount           : BitVec 4
  txBytes           : List Byte
  state             : BitVec 3
  checksumErrCount  : Byte
  timeoutErrCount   : Byte
deriving DecidableEq, Repr

/-- What the input ports show in the clock cycle that starts in `s`, with `rst` and `step_en` as given. Where no
byte is on offer `rx_byte` has no meaning (20_memory R65): a free value. At an edge that is no polling cycle (without
`step_en`, or with `rst`) the spec says nothing of the input ports; here they show the time, the pin and the offer of
the next polling cycle already, and show them again until it comes (DESIGN CHOICE, log entry 21). -/
def State.inPorts (s : State) (rst stepEn : Bool) : InPorts :=
  { rst := rst, stepEn := stepEn
    rxAvail := s.beginCycle.rxOffer.isSome
    rxByte := s.beginCycle.rxOffer.getD (Config.freeRxByte s.cycle)
    now := s.beginCycle.now, pinIn := s.beginCycle.pin
    cfgOwnAddr := s.cfg.ownAddr, cfgSerial := s.cfg.serial, cfgTimeoutMs := s.cfg.timeoutMs }

/-- `s` with the outputs of a clock edge that is no polling cycle: no byte taken, nothing emitted. The
environment's plan does not advance: no script entry is used and the cycle number stays, where the spec is silent
(DESIGN CHOICE, log entry 21). -/
def State.silence (s : State) : State := { s with tx := [], rxTake := false, events := [] }

/-- One clock edge. `rst` first (70_reset_and_hazards R250); then, with `step_en`, one polling cycle; without it
the registers hold (44_polling_cycle R208: `step_en` "marks a clock edge as a polling cycle"; log entry 13) and the
environment's plan waits (log entry 21). -/
def clockEdge (rst stepEn : Bool) (s : State) : Host.Outcome State Fault Refusal :=
  if rst then .next s.hardReset
  else if stepEn then step s
  else .next s.silence

/-- The output ports in the clock cycle that starts in the registers of `s` and whose edge leads to `t`: the
counters and the phase are the registered ones, the rest is what `Step` gives (44_polling_cycle R208). Past
`tx_count`, and in `tx_count` without `tx_valid`, the ports have no meaning: free values. -/
def outPorts (s t : State) : OutPorts :=
  { rxTake := t.rxTake
    txValid := !t.tx.isEmpty
    txCount := if t.tx.isEmpty then Config.freeTxCount s.cycle else BitVec.ofNat 4 t.tx.length
    txBytes := (List.range 8).map fun i => (t.tx[i]?).getD (Config.freeTxByte s.cycle i)
    state := BitVec.ofNat 3 s.state.code
    checksumErrCount := s.checksumErrorCount
    timeoutErrCount := s.timeoutErrorCount }

end Sys2Proof.Machine
end

