-- ==== Sys2Proof/Machine/Frame.lean ====
section
/-! DEFINITION. The frame of both directions (30_encoding R90 to R94) and the notation for writing frames
(30_encoding R96, R110). -/

namespace Sys2Proof.Machine

/-- The length field: the payload bytes plus the checksum byte (30_encoding R92). -/
def lengthField (payload : List Byte) : Byte := BitVec.ofNat 8 (payload.length + 1)

/-- `destAddr ^ srcAddr ^ length ^ payload[0] ^ …` (30_encoding R93). -/
def frameChecksum (dest src : Byte) (payload : List Byte) : Byte :=
  xorAll ([dest, src, lengthField payload] ++ payload)

/-- `FRAME(d, s, p0 p1 … pk)` (30_encoding R90, R110): the bytes in wire order. -/
def frameBytes (dest src : Byte) (payload : List Byte) : List Byte :=
  [dest, src, lengthField payload] ++ payload ++ [frameChecksum dest src payload]

/-- `PING d, s` (30_encoding R110). -/
def pingFrame (d s : Byte) : List Byte := frameBytes d s [0x00, 0x00]

/-- `STATUS d, s` (30_encoding R110). -/
def statusFrame (d s : Byte) : List Byte := frameBytes d s [0x00, 0x01]

/-- `INPUT d, s` (30_encoding R110). -/
def inputFrame (d s : Byte) : List Byte := frameBytes d s [0x00, 0x02]

/-- A stimulus script from cycle inputs written `now:byte`, `none` for no byte on offer (30_encoding R110). -/
def scriptOf (pin : Bool) (entries : List (TimeStamp × Option Byte)) : List CycleInput :=
  entries.map fun e => { now := e.1, arrivals := e.2.toList, pin := pin }

/-- `GAP n` (30_encoding R110): `n` milliseconds after `last` in which no byte is offered, as one silent cycle at
their end. How many cycles a gap has the notation leaves open (log entry 2). -/
def gapAfter (pin : Bool) (last : TimeStamp) (n : Nat) : List CycleInput :=
  scriptOf pin [(last + BitVec.ofNat 32 n, none)]

end Sys2Proof.Machine
end

