-- ==== Sys2Proof/Safety.lean ====
section
/-! DEFINITION. The terms claims are stated in: what an operation leaves unchanged, the invariants of
10_state R38, the premises on time of 44_polling_cycle R203, and runs. -/

namespace Sys2Proof.Machine

/-! ### Frames: what stays the same from `s` to `t` -/

/-- Configuration, sampled inputs and the environment's plan. No operation writes them. -/
structure SameInputs (s t : State) : Prop where
  cfg    : t.cfg = s.cfg
  now    : t.now = s.now
  pin    : t.pin = s.pin
  script : t.script = s.script
  cycle  : t.cycle = s.cycle

/-- Nothing is emitted. -/
structure NothingEmitted (s t : State) : Prop where
  tx     : t.tx = s.tx
  txSink : t.txSink = s.txSink

/-- Both error counters. -/
structure SameCounters (s t : State) : Prop where
  checksum : t.checksumErrorCount = s.checksumErrorCount
  timeout  : t.timeoutErrorCount = s.timeoutErrorCount

/-- The byte source is not read and the timestamp is not refreshed. -/
structure NoByteTaken (s t : State) : Prop where
  source    : t.rxSource = s.rxSource
  take      : t.rxTake = s.rxTake
  count     : t.bytesTaken = s.bytesTaken
  timestamp : t.lastActivityTimestamp = s.lastActivityTimestamp

/-- Exactly one byte leaves the byte source and the timestamp is the cycle's time sample (40_framer R120). -/
structure OneByteTaken (s t : State) : Prop where
  source    : t.rxSource = s.rxSource.tail
  take      : t.rxTake = true
  count     : t.bytesTaken = s.bytesTaken + 1
  timestamp : t.lastActivityTimestamp = s.now

/-- Every byte of the payload buffer reads as before. -/
def SameBuffer (s t : State) : Prop := ∀ a, t.payloadBuffer.read a = s.payloadBuffer.read a

/-- The data registers and the flag of the current frame. -/
structure SameFrameRegisters (s t : State) : Prop where
  sender : t.senderAddr = s.senderAddr
  len    : t.expectedLen = s.expectedLen
  count  : t.byteCount = s.byteCount
  ignore : t.ignoreFrame = s.ignoreFrame

/-- The Session State is as `ResetSession()` leaves it (10_state R35; the zeros of the data registers and the buffer are
decision D8 of the spec). -/
structure SessionCleared (t : State) : Prop where
  state  : t.state = .waitAddr
  sender : t.senderAddr = 0x00
  len    : t.expectedLen = 0x00
  count  : t.byteCount = 0x00
  ignore : t.ignoreFrame = false
  buffer : ∀ a, t.payloadBuffer.read a = 0x00

/-! ### Invariants (10_state R38) -/

/-- Items 1 to 6 of 10_state R38, with the canonical form of the buffer and the cells above the count, which read
as zero (10_state R22). -/
structure Inv (s : State) : Prop where
  /-- the buffer is in canonical form and holds no cell at or above 32 -/
  bufferWf : s.payloadBuffer.wf = true
  /-- item 1 -/
  idle : s.state = .waitAddr → SessionCleared s
  /-- item 2 -/
  header : s.state = .getSender ∨ s.state = .getLen →
    s.byteCount = 0x00 ∧ ∀ a, s.payloadBuffer.read a = 0x00
  /-- item 3 -/
  gathering : s.state = .gatherData → s.expectedLen ≠ 0x00 → s.byteCount.toNat < s.expectedLen.toNat
  /-- item 4 -/
  gathered : s.state = .processData → s.byteCount = s.expectedLen
  /-- item 5 -/
  addressed : s.state = .gatherData ∨ s.state = .processData → s.ignoreFrame = false →
    1 ≤ s.expectedLen.toNat ∧ s.expectedLen.toNat ≤ bufCap
  /-- item 6 -/
  responding : s.state.responding = true →
    s.ignoreFrame = false ∧ s.byteCount = s.expectedLen ∧ 1 ≤ s.expectedLen.toNat ∧
    s.expectedLen.toNat ≤ bufCap ∧ s.payloadBuffer.read 0 = 0x00 ∧ xorAll s.verificationBuffer = 0x00
  /-- cells not yet written in this frame read as zero -/
  unwritten : s.state = .gatherData ∨ (s.state = .processData ∧ s.expectedLen ≠ 0x00) →
    ∀ a, s.byteCount.toNat ≤ a → s.payloadBuffer.read a = 0x00

/-! ### Time and runs -/

/-- 44_polling_cycle R203 (c): the next time sample is the last one plus less than `2^TS_WIDTH - TIMEOUT_MS`
milliseconds. In the first cycle of a run R203 (c) gives no previous sample; there this measures from the latched
reset value 0, the model's choice (DESIGN CHOICE, log entry 20). -/
def LegalAdvance (s : State) : Prop :=
  (subTs s.nextInput.now s.now).toNat < 2 ^ 32 - s.cfg.timeoutMs.toNat

/-- Every gap of a list of cycle inputs, the first one counted from `last`, is within the bound. -/
def Timely (timeoutMs : TimeStamp) : TimeStamp → List CycleInput → Prop
  | _, [] => True
  | last, inp :: rest =>
    (subTs inp.now last).toNat ≤ timeoutMs.toNat ∧ Timely timeoutMs inp.now rest

/-- The time of the last of a list of cycle inputs; `last` for the empty list. -/
def lastTime : TimeStamp → List CycleInput → TimeStamp
  | last, [] => last
  | _, inp :: rest => lastTime inp.now rest

/-- `n` polling cycles. -/
def runCycles (n : Nat) (s : State) : Host.Outcome State Fault Refusal :=
  Host.Core.run Sys2Proof.core n s

end Sys2Proof.Machine
end

