-- ==== Sys2Proof/Certificates/Slice0/Obligations.lean ====
section
/-! DEFINITION. The statements for the provers. Each docstring names the rules of spec/ it formalises. A clause that
rests on a decision of the spec (a "[decision: …]" mark) or on a choice of the model says so. -/

open Sys2Proof Sys2Proof.Machine

/-! ### Encoding and selection -/

/-- Words written out from 10_state R21, 30_encoding R95, R98 and R104 decode to their instructions; short, reserved
and unassigned words are rejected by name. The phase codes in the SEQ words are decision D10 of the spec. That a SEQ
word is a byte with bits 7 to 4 zero and the operand byte behind it, and so the two clauses that reject the truncated
word `[0b0111]` and the byte 0x10, are the model's choice (log entry 7). -/
def Obligations.WrittenOutWordsDecode : Prop :=
  decode .seq [0b0001, 0x02] = .instr (.rxAddr 0x02) [] ∧
  decode .seq [0b0011, 0x09] = .instr (.rxSender 0x09) [] ∧
  decode .seq [0b0101, 0x21, 0x44] = .instr (.rxLen 0x21) [0x44] ∧
  decode .seq [0b0111, 0xAB] = .instr (.rxData 0xAB) [] ∧
  decode .seq [0b0100] = .instr .noByte [] ∧
  decode .seq [0b1001, 0x55] = .instr .process [0x55] ∧
  decode .seq [0b1010] = .instr .rspPing [] ∧
  decode .seq [0b1100] = .instr .rspStatus [] ∧
  decode .seq [0b1111, 0x07] = .instr .rspInput [0x07] ∧
  decode .chk [0x33] = .instr .timeoutCheck [0x33] ∧
  decode .req [0x00, 0x00] = .instr .ping [] ∧
  decode .req [0x00, 0x01] = .instr .status [] ∧
  decode .req [0x00, 0x02] = .instr .input [] ∧
  decode .req [0x01, 0x00] = .instr (.unknown 0x01 0x00) [] ∧
  decode .rsp [0x05] = .instr .replyPing [] ∧
  decode .rsp [0x03] = .instr .replyStatus [] ∧
  decode .rsp [0x02] = .instr .replyInput [] ∧
  decode .seq [0b0111] = .rejected .truncated ∧
  decode .seq [0x10] = .rejected (.notASelection 0x10) ∧
  decode .rsp [0x04] = .rejected (.notAReplyLength 0x04)

/-- For every well-formed instruction, with every operand, decoding its encoding gives it back and leaves what
follows it untouched (spec/opcode_table.json, 30_encoding R104). -/
def Obligations.DecodeOfEncodeIsIdentity : Prop :=
  ∀ (i : Instr) (rest : List Byte), WellFormed i → decode i.row.fmt (encode i ++ rest) = .instr i rest

/-- What decodes is well formed and belongs to a row whose mask and match accept the selecting value
("A row matches a value `v` when `v & mask = match`", 30_encoding R104), for every list of bytes in the formats
SEQ, REQ and RSP. -/
def Obligations.DecodedInstructionMatchesItsRow : Prop :=
  (∀ (v : Byte) (bytes rest : List Byte) (i : Instr), decode .seq (v :: bytes) = .instr i rest →
    WellFormed i ∧ i.row.fmt = .seq ∧ i.row.accepts v.toNat = true) ∧
  (∀ (p0 p1 : Byte) (bytes rest : List Byte) (i : Instr), decode .req (p0 :: p1 :: bytes) = .instr i rest →
    WellFormed i ∧ i.row.fmt = .req ∧ i.row.accepts (p0.toNat * 256 + p1.toNat) = true ∧ rest = bytes) ∧
  (∀ (len : Byte) (bytes rest : List Byte) (i : Instr), decode .rsp (len :: bytes) = .instr i rest →
    WellFormed i ∧ i.row.fmt = .rsp ∧ i.row.accepts len.toNat = true ∧ rest = bytes)

/-- The selection table of 10_state R21: in every phase, with or without a byte on offer, what the SEQ decoder reads
is the operation the table names, and the byte source is advanced only past the byte a receiving operation takes. -/
def Obligations.SelectionFollowsThePhaseTable : Prop :=
  ∀ s : State,
    (∀ b, s.rxOffer = some b → ∀ i, (s.state, i) ∈ [(Phase.waitAddr, Instr.rxAddr b),
        (Phase.getSender, Instr.rxSender b), (Phase.getLen, Instr.rxLen b), (Phase.gatherData, Instr.rxData b)] →
      decode .seq s.fetchBytes = .instr i s.rxSource.tail) ∧
    (s.state.receiving = true → s.rxOffer = none → decode .seq s.fetchBytes = .instr .noByte []) ∧
    (∀ i, (s.state, i) ∈ [(Phase.processData, Instr.process), (Phase.pingResponse, Instr.rspPing),
        (Phase.statusResponse, Instr.rspStatus), (Phase.inputResponse, Instr.rspInput)] →
      decode .seq s.fetchBytes = .instr i s.rxSource)

/-- A step runs the decoded operation: it samples the cycle's inputs, and in the order of `CYCLE_ORDER` runs the
operation the SEQ decoder reads in the state the Framer phase starts in, and TIMEOUT_CHECK (44_polling_cycle R200,
R201). The selection always decodes. -/
def Obligations.StepRunsDecodedOperation : Prop :=
  (∀ s : State, ∃ i rest, decode .seq s.fetchBytes = .instr i rest) ∧
  (∀ (s : State) (i : Instr) (rest : List Byte), s.cfg.cycleOrder = .framerFirst →
    decode .seq s.beginCycle.fetchBytes = .instr i rest →
    step s = andThen (exec i s.beginCycle) (exec .timeoutCheck)) ∧
  (∀ (s m : State) (i : Instr) (rest : List Byte), s.cfg.cycleOrder = .timeoutFirst →
    exec .timeoutCheck s.beginCycle = .next m → decode .seq m.fetchBytes = .instr i rest →
    step s = exec i m)

/-- PROCESS on a frame that is not ignored and whose exclusive-or is zero runs the command its first two payload
bytes decode to (41_validator_dispatcher R143). -/
def Obligations.ProcessRunsDecodedCommand : Prop :=
  ∀ (s : State) (i : Instr) (rest : List Byte),
    s.ignoreFrame = false → xorAll s.verificationBuffer = 0x00 →
    decode .req s.commandPair = .instr i rest → exec .process s = exec i s

/-- What a cycle samples (10_state R34, 44_polling_cycle R202): `now` and `pin` of the script's next entry, the
arrivals behind the bytes not yet taken; the last cycle's outputs are cleared; nothing else changes. That inputs come
from a script is the model's choice (log entry 2). -/
def Obligations.CycleSamplesItsInputs : Prop :=
  ∀ (s : State) (inp : CycleInput) (more : List CycleInput), s.script = inp :: more →
    s.beginCycle.now = inp.now ∧ s.beginCycle.pin = inp.pin ∧
    s.beginCycle.rxSource = s.rxSource ++ inp.arrivals ∧ s.beginCycle.script = more ∧
    s.beginCycle.tx = [] ∧ s.beginCycle.rxTake = false ∧ s.beginCycle.events = [] ∧
    s.beginCycle.txSink = s.txSink ∧ s.beginCycle.bytesTaken = s.bytesTaken ∧ s.beginCycle.cfg = s.cfg ∧
    s.beginCycle.state = s.state ∧ s.beginCycle.lastActivityTimestamp = s.lastActivityTimestamp ∧
    SameFrameRegisters s s.beginCycle ∧ SameBuffer s s.beginCycle ∧ SameCounters s s.beginCycle

/-! ### The Framer -/

/-- RX_ADDR (40_framer R121): any byte advances to `GetSender`; the flag says whether it differs from the own
address. Frame: one byte taken, everything else as before. -/
def Obligations.RxAddrStartsAFrame : Prop :=
  ∀ (b : Byte) (s : State), ∃ t, exec (.rxAddr b) s = .next t ∧
    t.state = .getSender ∧ (t.ignoreFrame = true ↔ b ≠ s.cfg.ownAddr) ∧ OneByteTaken s t ∧
    t.senderAddr = s.senderAddr ∧ t.expectedLen = s.expectedLen ∧ t.byteCount = s.byteCount ∧
    SameBuffer s t ∧ SameCounters s t ∧ NothingEmitted s t ∧ t.events = s.events ∧ SameInputs s t

/-- RX_SENDER (40_framer R122): the byte is stored as `senderAddr`, whatever it is and whatever the flag. -/
def Obligations.RxSenderStoresTheSender : Prop :=
  ∀ (b : Byte) (s : State), ∃ t, exec (.rxSender b) s = .next t ∧
    t.state = .getLen ∧ t.senderAddr = b ∧ OneByteTaken s t ∧
    t.expectedLen = s.expectedLen ∧ t.byteCount = s.byteCount ∧ t.ignoreFrame = s.ignoreFrame ∧
    SameBuffer s t ∧ SameCounters s t ∧ NothingEmitted s t ∧ t.events = s.events ∧ SameInputs s t

/-- RX_LEN (40_framer R123, decisions D6 and D7 of the spec): the byte is stored as `expectedLen`; a length of 0 or
above 32 sets the flag, no length clears it. -/
def Obligations.RxLenStoresTheLength : Prop :=
  ∀ (b : Byte) (s : State), ∃ t, exec (.rxLen b) s = .next t ∧
    t.state = .gatherData ∧ t.expectedLen = b ∧
    (t.ignoreFrame = true ↔ s.ignoreFrame = true ∨ b = 0x00 ∨ 32 < b.toNat) ∧ OneByteTaken s t ∧
    t.senderAddr = s.senderAddr ∧ t.byteCount = s.byteCount ∧
    SameBuffer s t ∧ SameCounters s t ∧ NothingEmitted s t ∧ t.events = s.events ∧ SameInputs s t

/-- RX_DATA (40_framer R124, 20_memory R61): below 32 the byte is stored in cell `byteCount` and no other cell
changes; at 32 and above nothing is stored. The count goes up by one modulo 256 and the frame is complete when the
new count equals `expectedLen`. The bound is decision D6 of the spec. -/
def Obligations.RxDataAppendsTheByte : Prop :=
  ∀ (b : Byte) (s : State), s.payloadBuffer.wf = true → ∃ t, exec (.rxData b) s = .next t ∧
    t.byteCount = s.byteCount + 1 ∧
    (s.byteCount + 1 = s.expectedLen → t.state = .processData) ∧
    (s.byteCount + 1 ≠ s.expectedLen → t.state = s.state) ∧
    (s.byteCount.toNat < 32 → t.payloadBuffer.read s.byteCount.toNat = b) ∧
    (∀ a, a ≠ s.byteCount.toNat ∨ 32 ≤ s.byteCount.toNat → t.payloadBuffer.read a = s.payloadBuffer.read a) ∧
    t.payloadBuffer.wf = true ∧ OneByteTaken s t ∧
    t.senderAddr = s.senderAddr ∧ t.expectedLen = s.expectedLen ∧ t.ignoreFrame = s.ignoreFrame ∧
    SameCounters s t ∧ NothingEmitted s t ∧ t.events = s.events ∧ SameInputs s t

/-- NOBYTE (40_framer R125): it changes nothing. -/
def Obligations.NoByteChangesNothing : Prop :=
  ∀ s : State, exec .noByte s = .next s ∧
    (s.state.receiving = true → s.rxOffer = none → framerPhase s = .next s)

/-- 20_memory R64: the byte source is polled at most once a cycle and only in the four receiving phases; in the four
others a byte on offer stays; the absence of a byte is no transition. -/
def Obligations.SourcePolledOnlyInReceivingPhases : Prop :=
  ∀ s t : State, framerPhase s = .next t →
    (s.state.receiving = true → ∀ b, s.rxOffer = some b → s.rxSource = b :: t.rxSource ∧ OneByteTaken s t) ∧
    (s.state.receiving = false → NoByteTaken s t) ∧
    (s.state.receiving = true → s.rxOffer = none → t = s)

/-! ### The Validator and the Dispatcher -/

/-- PROCESS on an ignored frame (41_validator_dispatcher R140; the event MalformedLength is decision D6 of the spec):
dropped without looking at the checksum, no counter, no reply. -/
def Obligations.IgnoredFrameIsDropped : Prop :=
  ∀ s : State, s.ignoreFrame = true → ∃ t, exec .process s = .next t ∧ SessionCleared t ∧
    (s.expectedLen = 0x00 ∨ 32 < s.expectedLen.toNat → t.events = s.events ++ [.malformedLength]) ∧
    (s.expectedLen ≠ 0x00 → s.expectedLen.toNat ≤ 32 → t.events = s.events ++ [.foreignAddress]) ∧
    SameCounters s t ∧ NothingEmitted s t ∧ NoByteTaken s t ∧ SameInputs s t

/-- PROCESS on an addressed frame whose exclusive-or is not zero (41_validator_dispatcher R142, 60_exceptions R221):
`checksumErrorCount` plus one modulo 256, back to idle, nothing emitted. -/
def Obligations.BadChecksumIsCountedAndDropped : Prop :=
  ∀ s : State, s.ignoreFrame = false → xorAll s.verificationBuffer ≠ 0x00 →
    ∃ t, exec .process s = .next t ∧ SessionCleared t ∧
      t.checksumErrorCount = s.checksumErrorCount + 1 ∧
      (s.checksumErrorCount = 0xFF → t.checksumErrorCount = 0x00) ∧
      t.timeoutErrorCount = s.timeoutErrorCount ∧ t.events = s.events ++ [.checksumMismatch] ∧
      NothingEmitted s t ∧ NoByteTaken s t ∧ SameInputs s t

/-- PROCESS on an addressed frame with a good checksum and one of the three command pairs (41_validator_dispatcher
R144, R145, R146): `state` moves to the command's response state, nothing else changes. -/
def Obligations.GoodFrameSelectsItsReply : Prop :=
  ∀ s : State, s.ignoreFrame = false → xorAll s.verificationBuffer = 0x00 →
    s.payloadBuffer.read 0 = 0x00 →
    (s.payloadBuffer.read 1 = 0x00 → exec .process s = .next { s with state := .pingResponse }) ∧
    (s.payloadBuffer.read 1 = 0x01 → exec .process s = .next { s with state := .statusResponse }) ∧
    (s.payloadBuffer.read 1 = 0x02 → exec .process s = .next { s with state := .inputResponse })

/-- PROCESS on an addressed frame with a good checksum and any other pair (41_validator_dispatcher R147,
60_exceptions R223): dropped, no counter, no reply. -/
def Obligations.UnknownCommandIsDropped : Prop :=
  ∀ s : State, s.ignoreFrame = false → xorAll s.verificationBuffer = 0x00 →
    ¬ (s.payloadBuffer.read 0 = 0x00 ∧ (s.payloadBuffer.read 1 = 0x00 ∨ s.payloadBuffer.read 1 = 0x01 ∨
        s.payloadBuffer.read 1 = 0x02)) →
    ∃ t, exec .process s = .next t ∧ SessionCleared t ∧ t.events = s.events ++ [.unknownCommand] ∧
      SameCounters s t ∧ NothingEmitted s t ∧ NoByteTaken s t ∧ SameInputs s t

/-- The commands PING, STATUS and INPUT alone: `state` and nothing else. That a command row of the table, run by
itself, is what 41_validator_dispatcher R144, R145 and R146 do inside PROCESS is the model's reading (log entry 8). -/
def Obligations.CommandsSelectTheirReplyState : Prop :=
  ∀ s : State,
    exec .ping s = .next { s with state := .pingResponse } ∧
    exec .status s = .next { s with state := .statusResponse } ∧
    exec .input s = .next { s with state := .inputResponse }

/-- UNKNOWN alone: UnknownCommand is raised, the session is reset, no counter moves and nothing is emitted. That the
row, run by itself, is what 41_validator_dispatcher R147 does inside PROCESS is the model's reading (log entry 8), and
so is the same effect for a term `unknown p0 p1` with one of the three defined pairs, which is not well formed and
which PROCESS never runs. -/
def Obligations.UnknownRaisesUnknownCommand : Prop :=
  ∀ (p0 p1 : Byte) (s : State), ∃ t, exec (.unknown p0 p1) s = .next t ∧ SessionCleared t ∧
    t.events = s.events ++ [.unknownCommand] ∧ SameCounters s t ∧ NothingEmitted s t ∧ NoByteTaken s t ∧
    SameInputs s t

/-- PROCESS reads its operands and nothing else (41_validator_dispatcher R139, R140, 20_memory R62), in every state. The
bytes it sums are `OWN_ADDR`, `senderAddr`, `expectedLen` and the counted cells in order (R141). Two states that agree on
`ignoreFrame`, on `expectedLen` and, where the frame is not ignored, on those bytes and on cells 0 and 1 take the same
branch, whatever else differs: the phase, the timestamp, the time, the pin, the counters, the cells at and above the
count; of an ignored frame no address, count or cell matters. For a count above 32, which no run reaches (10_state R38
item 5), the bytes past cell 31 are the free values `Config.freeCell` of that cycle, the model's choice (log entry 6);
the statement holds whatever they are. -/
def Obligations.ProcessReadsOnlyItsOperands : Prop :=
  ∀ s : State,
    s.verificationBuffer.length = 3 + s.byteCount.toNat ∧
    s.verificationBuffer.take 3 = [s.cfg.ownAddr, s.senderAddr, s.expectedLen] ∧
    (∀ i, i < s.byteCount.toNat → s.verificationBuffer[3 + i]? =
      some (if i < 32 then s.payloadBuffer.read i else Config.freeCell s.cycle i)) ∧
    ∀ s' : State, s'.ignoreFrame = s.ignoreFrame → s'.expectedLen = s.expectedLen →
      (s.ignoreFrame = false → s'.cfg.ownAddr = s.cfg.ownAddr ∧ s'.senderAddr = s.senderAddr ∧
        s'.byteCount = s.byteCount ∧ (32 < s.byteCount.toNat → s'.cycle = s.cycle) ∧
        (∀ i, i < 32 → i < s.byteCount.toNat ∨ i < 2 → s'.payloadBuffer.read i = s.payloadBuffer.read i)) →
      ∃ (t t' : State) (raised : List Event), exec .process s = .next t ∧ exec .process s' = .next t' ∧
        t'.state = t.state ∧ t.events = s.events ++ raised ∧ t'.events = s'.events ++ raised ∧
        (t.checksumErrorCount = s.checksumErrorCount ↔ t'.checksumErrorCount = s'.checksumErrorCount) ∧
        (SessionCleared t ∧ SessionCleared t' ∨
          t = { s with state := t.state } ∧ t' = { s' with state := t.state } ∧ t.state.responding = true)

/-- 41_validator_dispatcher R150: what PROCESS guarantees, whatever the state it runs in. -/
def Obligations.ProcessGuarantees : Prop :=
  ∀ s t : State, exec .process s = .next t →
    (t.state = .waitAddr ∨ t.state.responding = true) ∧
    NothingEmitted s t ∧ NoByteTaken s t ∧ t.timeoutErrorCount = s.timeoutErrorCount ∧
    (t.checksumErrorCount ≠ s.checksumErrorCount → t.events = s.events ++ [.checksumMismatch]) ∧
    (t.state.responding = true → s.ignoreFrame = false ∧ xorAll s.verificationBuffer = 0x00 ∧
      t = { s with state := t.state })

/-- Short addressed frames (41_validator_dispatcher R148, decision D8 of the spec): a good frame of length 1 is
dispatched as PING exactly when the sender is `OWN_ADDR ^ 0x01` and is dropped otherwise; a good frame of length 2
whose payload byte is 0 is dispatched by its checksum byte, as PING, STATUS or INPUT exactly when the sender is
`OWN_ADDR ^ 0x02`, `OWN_ADDR ^ 0x03` or `OWN_ADDR`, and is dropped otherwise; with another payload byte it is
dropped. -/
def Obligations.ShortFramesFollowTheLiteralRules : Prop :=
  ∀ s : State, s.ignoreFrame = false → s.byteCount = s.expectedLen → xorAll s.verificationBuffer = 0x00 →
    (s.expectedLen = 0x01 → s.payloadBuffer.read 1 = 0x00 →
      (s.senderAddr = s.cfg.ownAddr ^^^ 0x01 → exec .process s = exec .ping s) ∧
      (s.senderAddr ≠ s.cfg.ownAddr ^^^ 0x01 → exec .process s = .next (s.raise .unknownCommand))) ∧
    (s.expectedLen = 0x02 → s.payloadBuffer.read 0 = 0x00 →
      s.payloadBuffer.read 1 = s.cfg.ownAddr ^^^ s.senderAddr ^^^ 0x02 ∧
      (s.senderAddr = s.cfg.ownAddr ^^^ 0x02 → exec .process s = exec .ping s) ∧
      (s.senderAddr = s.cfg.ownAddr ^^^ 0x03 → exec .process s = exec .status s) ∧
      (s.senderAddr = s.cfg.ownAddr → exec .process s = exec .input s) ∧
      (s.senderAddr ≠ s.cfg.ownAddr ^^^ 0x02 → s.senderAddr ≠ s.cfg.ownAddr ^^^ 0x03 →
        s.senderAddr ≠ s.cfg.ownAddr → exec .process s = .next (s.raise .unknownCommand))) ∧
    (s.expectedLen = 0x02 → s.payloadBuffer.read 0 ≠ 0x00 → exec .process s = .next (s.raise .unknownCommand))

/-- One corrupted byte (41_validator_dispatcher R142, 30_encoding R93): where a gathered addressed frame is good, the
same frame with another sender byte, or with another byte in one of the cells it counts, is a checksum error: the
counter goes up by exactly one and nothing is emitted. -/
def Obligations.OneCorruptedByteIsDetected : Prop :=
  ∀ s s' : State, s.ignoreFrame = false → s.byteCount.toNat ≤ 32 → xorAll s.verificationBuffer = 0x00 →
    s'.ignoreFrame = false → s'.cfg = s.cfg → s'.expectedLen = s.expectedLen → s'.byteCount = s.byteCount →
    ((s'.senderAddr ≠ s.senderAddr ∧ SameBuffer s s') ∨
     (s'.senderAddr = s.senderAddr ∧ ∃ k, k < s.byteCount.toNat ∧
        s'.payloadBuffer.read k ≠ s.payloadBuffer.read k ∧
        ∀ a, a ≠ k → s'.payloadBuffer.read a = s.payloadBuffer.read a)) →
    ∃ t, exec .process s' = .next t ∧ t.checksumErrorCount = s'.checksumErrorCount + 1 ∧ t.state = .waitAddr ∧
      NothingEmitted s' t

/-! ### The Responder -/

/-- RSP_PING (42_responder R163): the Ping reply goes to the sink, then the session is reset; counters and timestamp
unchanged. -/
def Obligations.RspPingEmitsTheSerialNumber : Prop :=
  ∀ s : State, ∃ t, exec .rspPing s = .next t ∧
    t.txSink = s.txSink ++ [s.senderAddr, s.cfg.ownAddr, 0x05, s.cfg.serial.s0, s.cfg.serial.s1, s.cfg.serial.s2,
      s.cfg.serial.s3, s.senderAddr ^^^ s.cfg.ownAddr ^^^ 0x05 ^^^ s.cfg.serial.s0 ^^^ s.cfg.serial.s1 ^^^
      s.cfg.serial.s2 ^^^ s.cfg.serial.s3] ∧
    (∃ f, t.tx = s.tx ++ f ∧ t.txSink = s.txSink ++ f) ∧
    SessionCleared t ∧ SameCounters s t ∧ NoByteTaken s t ∧ t.events = s.events ∧ SameInputs s t

/-- RSP_STATUS (42_responder R164; the sampling time is decision D13 of the spec): the counters, checksum first, as
they stand; reading does not clear them. -/
def Obligations.RspStatusReportsTheCounters : Prop :=
  ∀ s : State, ∃ t, exec .rspStatus s = .next t ∧
    t.txSink = s.txSink ++ [s.senderAddr, s.cfg.ownAddr, 0x03, s.checksumErrorCount, s.timeoutErrorCount,
      s.senderAddr ^^^ s.cfg.ownAddr ^^^ 0x03 ^^^ s.checksumErrorCount ^^^ s.timeoutErrorCount] ∧
    (∃ f, t.tx = s.tx ++ f ∧ t.txSink = s.txSink ++ f) ∧
    SessionCleared t ∧ SameCounters s t ∧ NoByteTaken s t ∧ t.events = s.events ∧ SameInputs s t

/-- RSP_INPUT (42_responder R165; polarity and sampling time are decision D12 of the spec): bit 0 is the pin level of
this cycle, bits 7 to 1 are zero. -/
def Obligations.RspInputReportsThePin : Prop :=
  ∀ s : State, ∃ (t : State) (v : Byte), exec .rspInput s = .next t ∧
    (s.pin = true → v = 0x01) ∧ (s.pin = false → v = 0x00) ∧
    t.txSink = s.txSink ++ [s.senderAddr, s.cfg.ownAddr, 0x02, v, s.senderAddr ^^^ s.cfg.ownAddr ^^^ 0x02 ^^^ v] ∧
    (∃ f, t.tx = s.tx ++ f ∧ t.txSink = s.txSink ++ f) ∧
    SessionCleared t ∧ SameCounters s t ∧ NoByteTaken s t ∧ t.events = s.events ∧ SameInputs s t

/-- REPLY_PING, REPLY_STATUS, REPLY_INPUT (30_encoding R99, R100, R101): the three reply layouts, byte by byte. That a
reply row of the table is the emission of its frame and nothing else is the model's reading (log entry 8). -/
def Obligations.RepliesHaveTheirLayouts : Prop :=
  ∀ s : State,
    exec .replyPing s = .next (s.emit [s.senderAddr, s.cfg.ownAddr, 0x05, s.cfg.serial.s0, s.cfg.serial.s1,
      s.cfg.serial.s2, s.cfg.serial.s3, s.senderAddr ^^^ s.cfg.ownAddr ^^^ 0x05 ^^^ s.cfg.serial.s0 ^^^
      s.cfg.serial.s1 ^^^ s.cfg.serial.s2 ^^^ s.cfg.serial.s3]) ∧
    exec .replyStatus s = .next (s.emit [s.senderAddr, s.cfg.ownAddr, 0x03, s.checksumErrorCount,
      s.timeoutErrorCount, s.senderAddr ^^^ s.cfg.ownAddr ^^^ 0x03 ^^^ s.checksumErrorCount ^^^
      s.timeoutErrorCount]) ∧
    (∀ v : Byte, (v = 0x01 ∧ s.pin = true) ∨ (v = 0x00 ∧ s.pin = false) →
      exec .replyInput s = .next (s.emit [s.senderAddr, s.cfg.ownAddr, 0x02, v,
        s.senderAddr ^^^ s.cfg.ownAddr ^^^ 0x02 ^^^ v]))

/-- Emitting (20_memory R66, R67; that the sink always accepts is decision D11 of the spec): the bytes go to the sink
in order and nothing else of the machine changes. -/
def Obligations.EmitAppendsToTheSink : Prop :=
  ∀ (s : State) (f : List Byte),
    (s.emit f).txSink = s.txSink ++ f ∧ (s.emit f).tx = s.tx ++ f ∧ (s.emit f).state = s.state ∧
    SameFrameRegisters s (s.emit f) ∧ SameBuffer s (s.emit f) ∧ SameCounters s (s.emit f) ∧
    NoByteTaken s (s.emit f) ∧ (s.emit f).events = s.events ∧ SameInputs s (s.emit f)

/-- A cycle emits nothing or one whole reply: at least five bytes, `destAddr` the sender, `srcAddr` the own address,
`3 + length` bytes in all, exclusive-or zero (42_responder R161, R162; 30_encoding R93, R98; 10_state R38 item 8). -/
def Obligations.CycleEmitsNothingOrOneReply : Prop :=
  ∀ s t : State, step s = .next t → t.txSink = s.txSink ++ t.tx ∧
    (t.tx = [] ∨
      (s.state.responding = true ∧ xorAll t.tx = 0x00 ∧ t.tx[0]? = some s.senderAddr ∧
       t.tx[1]? = some s.cfg.ownAddr ∧ (t.tx[2]?).map (fun len => 3 + len.toNat) = some t.tx.length ∧
       (t.tx.length = 8 ∨ t.tx.length = 6 ∨ t.tx.length = 5) ∧ t.state = .waitAddr))

/-- The three replies are frames in the sense of 30_encoding R90 with the request's sender as destination
(30_encoding R98, 42_responder R161). -/
def Obligations.RepliesAreFrames : Prop :=
  ∀ s : State,
    s.pingReply = frameBytes s.senderAddr s.cfg.ownAddr
      [s.cfg.serial.s0, s.cfg.serial.s1, s.cfg.serial.s2, s.cfg.serial.s3] ∧
    s.statusReply = frameBytes s.senderAddr s.cfg.ownAddr [s.checksumErrorCount, s.timeoutErrorCount] ∧
    s.inputReply = frameBytes s.senderAddr s.cfg.ownAddr [if s.pin then 0x01 else 0x00]

/-! ### The Timeout Monitor -/

/-- TIMEOUT_CHECK fires (43_timeout_monitor R180, R181, 60_exceptions R222): in any non-idle state with more than
`TIMEOUT_MS` elapsed since the last byte, `timeoutErrorCount` plus one modulo 256 and `ResetSession()`; nothing is
emitted, `checksumErrorCount` and the timestamp stay. -/
def Obligations.ExpiredGapAbortsTheFrame : Prop :=
  ∀ s : State, s.state ≠ .waitAddr → s.cfg.timeoutMs.toNat < (s.now - s.lastActivityTimestamp).toNat →
    ∃ t, exec .timeoutCheck s = .next t ∧ SessionCleared t ∧
      t.timeoutErrorCount = s.timeoutErrorCount + 1 ∧
      (s.timeoutErrorCount = 0xFF → t.timeoutErrorCount = 0x00) ∧
      t.checksumErrorCount = s.checksumErrorCount ∧ t.events = s.events ++ [.frameTimeout] ∧
      NothingEmitted s t ∧ NoByteTaken s t ∧ SameInputs s t

/-- TIMEOUT_CHECK does not fire in `WaitAddr`, however long the silence, nor when the elapsed time is at most
`TIMEOUT_MS` (43_timeout_monitor R180, R182; modular subtraction is decision D5 of the spec): nothing changes. -/
def Obligations.UnexpiredGapChangesNothing : Prop :=
  ∀ s : State,
    (s.state = .waitAddr → exec .timeoutCheck s = .next s) ∧
    ((s.now - s.lastActivityTimestamp).toNat ≤ s.cfg.timeoutMs.toNat → exec .timeoutCheck s = .next s)

/-- The corners of the bound (43_timeout_monitor R186 (b), (c)): 0 fires at the first cycle whose time differs from
the timestamp, `2^32 - 1` never fires. -/
def Obligations.BoundCorners : Prop :=
  ∀ s : State, s.state ≠ .waitAddr →
    (s.cfg.timeoutMs = 0 → (s.expired = true ↔ s.now ≠ s.lastActivityTimestamp)) ∧
    (s.cfg.timeoutMs = 0xFFFFFFFF → s.expired = false)

/-- A stalled frame (43_timeout_monitor R181): a cycle that starts while a frame is being received, with the gap
expired and no byte on offer, counts exactly one timeout and ends idle, in either cycle order. -/
def Obligations.StalledFrameIsAborted : Prop :=
  ∀ s : State, s.state = .getSender ∨ s.state = .getLen ∨ s.state = .gatherData →
    s.beginCycle.rxOffer = none → s.beginCycle.expired = true →
    ∃ t, step s = .next t ∧ SessionCleared t ∧ t.timeoutErrorCount = s.timeoutErrorCount + 1 ∧
      t.checksumErrorCount = s.checksumErrorCount ∧ t.tx = [] ∧ t.events = [.frameTimeout] ∧ t.rxTake = false ∧
      t.lastActivityTimestamp = s.lastActivityTimestamp

/-- Where the two cycle orders differ (44_polling_cycle R204 (a), (c); 43_timeout_monitor R186 (a)): a cycle that
starts with the gap expired. With a byte on offer in a receiving state, `FRAMER_FIRST` takes it as the frame's next
byte and counts nothing, `TIMEOUT_FIRST` counts a timeout and takes it as a destination address. In a response state,
`FRAMER_FIRST` emits the reply and counts nothing, `TIMEOUT_FIRST` counts a timeout and emits nothing. -/
def Obligations.ExpiredGapUnderBothOrders : Prop :=
  ∀ s : State, s.beginCycle.expired = true →
    (∀ b, s.state.receiving = true → s.beginCycle.rxOffer = some b →
      (s.cfg.cycleOrder = .framerFirst → ∃ t, step s = .next t ∧ framerPhase s.beginCycle = .next t ∧
        t.timeoutErrorCount = s.timeoutErrorCount ∧ t.rxTake = true) ∧
      (s.cfg.cycleOrder = .timeoutFirst → ∃ t, step s = .next t ∧ t.state = .getSender ∧
        (t.ignoreFrame = true ↔ b ≠ s.cfg.ownAddr) ∧ t.timeoutErrorCount = s.timeoutErrorCount + 1 ∧
        t.rxTake = true ∧ t.events = [.frameTimeout])) ∧
    (s.state.responding = true →
      (s.cfg.cycleOrder = .framerFirst → ∃ t, step s = .next t ∧ t.state = .waitAddr ∧
        (s.state = .pingResponse → t.tx = s.pingReply) ∧ (s.state = .statusResponse → t.tx = s.statusReply) ∧
        (s.state = .inputResponse → t.tx = s.beginCycle.inputReply) ∧
        t.timeoutErrorCount = s.timeoutErrorCount) ∧
      (s.cfg.cycleOrder = .timeoutFirst → ∃ t, step s = .next t ∧ t.tx = [] ∧ t.txSink = s.txSink ∧
        t.timeoutErrorCount = s.timeoutErrorCount + 1))

/-- A completed frame that the monitor aborts (43_timeout_monitor R182, 44_polling_cycle R204 (b)): a cycle that
starts in `ProcessData` with the gap expired and no byte on offer. With a good addressed frame that carries one of the
three commands it ends idle with one timeout counted, no checksum error and no reply, in either order. With a bad
checksum, `FRAMER_FIRST` counts a checksum error and no timeout, `TIMEOUT_FIRST` a timeout and no checksum error. -/
def Obligations.LateProcessingLosesTheFrame : Prop :=
  ∀ s : State, s.state = .processData → s.ignoreFrame = false →
    s.beginCycle.expired = true → s.beginCycle.rxOffer = none →
    (xorAll s.beginCycle.verificationBuffer = 0x00 → s.payloadBuffer.read 0 = 0x00 → (s.payloadBuffer.read 1).toNat ≤ 2 →
      ∃ t, step s = .next t ∧ SessionCleared t ∧ t.timeoutErrorCount = s.timeoutErrorCount + 1 ∧
        t.checksumErrorCount = s.checksumErrorCount ∧ t.tx = [] ∧ t.events = [.frameTimeout]) ∧
    (xorAll s.beginCycle.verificationBuffer ≠ 0x00 → s.cfg.cycleOrder = .framerFirst →
      ∃ t, step s = .next t ∧ SessionCleared t ∧ t.timeoutErrorCount = s.timeoutErrorCount ∧
        t.checksumErrorCount = s.checksumErrorCount + 1 ∧ t.tx = [] ∧ t.events = [.checksumMismatch]) ∧
    (xorAll s.beginCycle.verificationBuffer ≠ 0x00 → s.cfg.cycleOrder = .timeoutFirst →
      ∃ t, step s = .next t ∧ SessionCleared t ∧ t.timeoutErrorCount = s.timeoutErrorCount + 1 ∧
        t.checksumErrorCount = s.checksumErrorCount ∧ t.tx = [] ∧ t.events = [.frameTimeout])

/-- The two cycle orders agree in every cycle in which the monitor's condition is false both before and after the
Framer phase (44_polling_cycle R204): under either order the cycle is the Framer phase alone. -/
def Obligations.CycleOrdersAgreeWithoutTimeout : Prop :=
  ∀ (s m : State) (o : CycleOrder), framerPhase s.beginCycle = .next m → s.beginCycle.expired = false →
    m.expired = false →
    step { s with cfg := { s.cfg with cycleOrder := o } } =
      .next { m with cfg := { m.cfg with cycleOrder := o } }

/-- The watchdog counter of 43_timeout_monitor R185 is the same function of the inputs: kept equal to the elapsed
time, advanced by the cycle's time and cleared by a received byte, it stays equal to the elapsed time, and it fires
when the monitor does. -/
def Obligations.WatchdogCounterIsTheElapsedTime : Prop :=
  ∀ (s m : State) (w : TimeStamp), w = s.elapsed → framerPhase s.beginCycle = .next m →
    watchdogNext w (s.beginCycle.now - s.now) false = s.beginCycle.elapsed ∧
    watchdogNext w (s.beginCycle.now - s.now) m.rxTake = m.elapsed ∧
    watchdogFires m.state (watchdogNext w (s.beginCycle.now - s.now) m.rxTake) s.cfg.timeoutMs = m.expired

/-- Elapsed time is true time (43_timeout_monitor R183, 44_polling_cycle R203 (c)): while the gap is within the bound
and the next sample is a legal advance, the elapsed time of the next cycle is the last one plus the advance, without
wrapping, so the monitor fires exactly when the true sum exceeds the bound. In the first cycle, which R203 (c) gives no
previous sample, `LegalAdvance` measures from the latched reset value 0: the model's choice (log entry 20). -/
def Obligations.ElapsedTimeDoesNotWrap : Prop :=
  ∀ s : State, s.elapsed.toNat ≤ s.cfg.timeoutMs.toNat → LegalAdvance s →
    s.beginCycle.elapsed.toNat = s.elapsed.toNat + (s.beginCycle.now - s.now).toNat

/-! ### Errors -/

/-- Every error is taken the same way (60_exceptions R228): whatever operation raises, its counter and no other moves,
the session is reset in the same operation, nothing is emitted and nothing is saved. -/
def Obligations.EveryErrorIsTakenAlike : Prop :=
  ∀ (i : Instr) (s t : State) (e : Event), exec i s = .next t → t.events = s.events ++ [e] →
    SessionCleared t ∧ NothingEmitted s t ∧ NoByteTaken s t ∧ SameInputs s t ∧
    t.checksumErrorCount = (if e = .checksumMismatch then s.checksumErrorCount + 1 else s.checksumErrorCount) ∧
    t.timeoutErrorCount = (if e = .frameTimeout then s.timeoutErrorCount + 1 else s.timeoutErrorCount)

/-- Which operations raise which error, and in which order the tests of PROCESS stand (60_exceptions R220, R227; the
event MalformedLength is decision D6 of the spec): one operation raises at most one error, and a frame both foreign
and malformed reports MalformedLength. -/
def Obligations.ErrorsHaveTheirCauses : Prop :=
  ∀ (i : Instr) (s t : State), exec i s = .next t → t.events ≠ s.events →
    ∃ e, t.events = s.events ++ [e] ∧
      (e = .frameTimeout → i = .timeoutCheck ∧ s.expired = true) ∧
      (e = .checksumMismatch → i = .process ∧ s.ignoreFrame = false ∧ xorAll s.verificationBuffer ≠ 0x00) ∧
      (e = .malformedLength → i = .process ∧ s.ignoreFrame = true ∧
        (s.expectedLen = 0x00 ∨ 32 < s.expectedLen.toNat)) ∧
      (e = .foreignAddress → i = .process ∧ s.ignoreFrame = true ∧ s.expectedLen ≠ 0x00 ∧
        s.expectedLen.toNat ≤ 32) ∧
      (e = .unknownCommand →
        (i = .process ∧ s.ignoreFrame = false ∧ xorAll s.verificationBuffer = 0x00 ∧
          definedPair (s.payloadBuffer.read 0) (s.payloadBuffer.read 1) = false) ∨
        ∃ p0 p1, i = .unknown p0 p1)

/-! ### Whole-machine rules -/

/-- Every register has its writers (10_state R21 to R30): over all instructions, a register that changes was changed
by one of the operations its rule names or cleared by `ResetSession()`; `state` (R21) goes to the successor that the
operation names, or to `WaitAddr` with the session cleared: by PROCESS and UNKNOWN dropping a frame, by a response
operation, or by the monitor from a non-idle state. That a command row run by itself writes `state` is the model's
reading (log entry 8). -/
def Obligations.RegistersHaveTheirWriters : Prop :=
  ∀ (i : Instr) (s t : State), exec i s = .next t →
    (t.state ≠ s.state →
      (∃ b, i = .rxAddr b ∧ t.state = .getSender) ∨ (∃ b, i = .rxSender b ∧ t.state = .getLen) ∨
      (∃ b, i = .rxLen b ∧ t.state = .gatherData) ∨
      (∃ b, i = .rxData b ∧ t.state = .processData ∧ t.byteCount = t.expectedLen) ∨
      ((i = .process ∨ i = .ping) ∧ t.state = .pingResponse) ∨
      ((i = .process ∨ i = .status) ∧ t.state = .statusResponse) ∨
      ((i = .process ∨ i = .input) ∧ t.state = .inputResponse) ∨
      (SessionCleared t ∧
        (i = .process ∨ (∃ p0 p1, i = .unknown p0 p1) ∨ i = .rspPing ∨ i = .rspStatus ∨ i = .rspInput ∨
          (i = .timeoutCheck ∧ s.state ≠ .waitAddr ∧ s.expired = true)))) ∧
    (t.senderAddr ≠ s.senderAddr → (∃ b, i = .rxSender b ∧ t.senderAddr = b) ∨ SessionCleared t) ∧
    (t.expectedLen ≠ s.expectedLen → (∃ b, i = .rxLen b ∧ t.expectedLen = b) ∨ SessionCleared t) ∧
    (t.byteCount ≠ s.byteCount → (∃ b, i = .rxData b) ∧ t.byteCount = s.byteCount + 1 ∨ SessionCleared t) ∧
    (t.ignoreFrame ≠ s.ignoreFrame → (∃ b, i = .rxAddr b) ∨ (∃ b, i = .rxLen b ∧ t.ignoreFrame = true) ∨
      SessionCleared t) ∧
    (∀ a, t.payloadBuffer.read a ≠ s.payloadBuffer.read a →
      (∃ b, i = .rxData b ∧ a = s.byteCount.toNat ∧ a < 32) ∨ SessionCleared t) ∧
    (t.lastActivityTimestamp ≠ s.lastActivityTimestamp →
      (∃ b, i = .rxAddr b ∨ i = .rxSender b ∨ i = .rxLen b ∨ i = .rxData b) ∧ t.lastActivityTimestamp = s.now) ∧
    (t.checksumErrorCount ≠ s.checksumErrorCount → i = .process ∧
      t.checksumErrorCount = s.checksumErrorCount + 1 ∧ s.ignoreFrame = false ∧
      xorAll s.verificationBuffer ≠ 0x00) ∧
    (t.timeoutErrorCount ≠ s.timeoutErrorCount → i = .timeoutCheck ∧
      t.timeoutErrorCount = s.timeoutErrorCount + 1 ∧ s.expired = true) ∧
    SameInputs s t

/-- A step never writes the configuration (10_state R32, 20_memory R75). -/
def Obligations.ConfigurationNeverChanges : Prop :=
  ∀ s t : State, step s = .next t → t.cfg = s.cfg

/-- Per-cycle bounds (44_polling_cycle R206, 10_state R38 item 7, 60_exceptions R227): at most one byte is taken, from
the front of the source; a cycle that takes a byte emits nothing; each counter moves by at most one and not both; under
`FRAMER_FIRST` a cycle that raises anything ends in `WaitAddr`. -/
def Obligations.CycleBounds : Prop :=
  ∀ s t : State, step s = .next t →
    (t.rxTake = true → t.bytesTaken = s.bytesTaken + 1 ∧ t.rxSource = s.beginCycle.rxSource.tail ∧
      s.beginCycle.rxSource ≠ [] ∧ t.tx = []) ∧
    (t.rxTake = false → t.bytesTaken = s.bytesTaken ∧ t.rxSource = s.beginCycle.rxSource) ∧
    (t.checksumErrorCount = s.checksumErrorCount ∨ t.checksumErrorCount = s.checksumErrorCount + 1) ∧
    (t.timeoutErrorCount = s.timeoutErrorCount ∨ t.timeoutErrorCount = s.timeoutErrorCount + 1) ∧
    (t.checksumErrorCount = s.checksumErrorCount ∨ t.timeoutErrorCount = s.timeoutErrorCount) ∧
    (s.cfg.cycleOrder = .framerFirst → t.events ≠ [] → t.state = .waitAddr) ∧
    t.events.length ≤ 1

/-! ### Reset, invariants, totality -/

/-- Reset (10_state R36, 70_reset_and_hazards R251; the zeros the source does not state are decision D9 of the spec):
for every configuration the block is supplied with. That `State.reset` is supplied with the reference configuration is
the model's choice (DESIGN CHOICE, log entry 1); of its fields the bound 15 is R33's, and the order `FRAMER_FIRST` is
the default the spec chose for `CYCLE_ORDER` (00_scope R9, 44_polling_cycle R200, decision D3 of the spec). -/
def Obligations.ResetStateIsAsStated : Prop :=
  ∀ cfg : Config, SessionCleared (State.resetWith cfg) ∧ (State.resetWith cfg).lastActivityTimestamp = 0 ∧
    (State.resetWith cfg).checksumErrorCount = 0x00 ∧ (State.resetWith cfg).timeoutErrorCount = 0x00 ∧
    (State.resetWith cfg).cfg = cfg ∧ State.reset = State.resetWith Config.reference ∧
    Config.reference.timeoutMs = 15 ∧ Config.reference.cycleOrder = .framerFirst

/-- The invariant of 10_state R38 holds at reset, whatever the configuration. -/
def Obligations.ResetMeetsTheInvariant : Prop :=
  ∀ cfg : Config, Inv (State.resetWith cfg)

/-- Every polling cycle keeps the invariant of 10_state R38, from every state that meets it, under both cycle orders
and for every input. -/
def Obligations.StepKeepsTheInvariant : Prop :=
  ∀ s t : State, Inv s → step s = .next t → Inv t

/-- "`Step` is total, every input in every state has exactly one successor" (44_polling_cycle R207): from every state,
reached or not, a cycle completes, neither fault nor refusal. In a state with a count above the buffer's capacity this
rests on the free values of log entry 6. -/
def Obligations.StepAlwaysCompletes : Prop :=
  ∀ s : State, ∃ t, step s = .next t

/-- PROCESS completes in every state (41_validator_dispatcher R139, R150 (a), 44_polling_cycle R207), and under the
invariant, where a frame has been gathered, it reads no cell the buffer does not have (20_memory R62: "every index is
in range"). -/
def Obligations.ProcessAlwaysCompletes : Prop :=
  (∀ s : State, ∃ t, exec .process s = .next t) ∧
  (∀ s : State, Inv s → s.state = .processData → s.ignoreFrame = false →
    1 ≤ s.byteCount.toNat ∧ s.byteCount.toNat ≤ 32 ∧
    s.verificationBuffer = [s.cfg.ownAddr, s.senderAddr, s.expectedLen] ++
      (List.range s.byteCount.toNat).map (fun i => s.payloadBuffer.read i))

/-- Liveness of the idle state (44_polling_cycle R207): in every non-idle state, a cycle in which the gap has expired
and no byte is on offer ends in `WaitAddr`. -/
def Obligations.ExpiredSilentCycleEndsIdle : Prop :=
  ∀ s : State, s.beginCycle.expired = true → s.beginCycle.rxOffer = none →
    ∃ t, step s = .next t ∧ t.state = .waitAddr

/-- Idle without input (44_polling_cycle R207, 40_framer R125): in `WaitAddr` with no byte on offer a cycle changes no
register, whatever the time. -/
def Obligations.IdleWaitsForEver : Prop :=
  ∀ s : State, s.state = .waitAddr → s.beginCycle.rxOffer = none → step s = .next s.beginCycle

/-- A clock edge with `rst` (70_reset_and_hazards R250, decision D18 of the spec): every register takes its reset
value whatever the state and the enable, no byte is taken, nothing is emitted, no polling cycle is performed. -/
def Obligations.ResetEdgeResetsEveryRegister : Prop :=
  ∀ (s : State) (en : Bool), ∃ t, clockEdge true en s = .next t ∧ SessionCleared t ∧
    t.lastActivityTimestamp = 0 ∧ t.checksumErrorCount = 0x00 ∧ t.timeoutErrorCount = 0x00 ∧
    t.rxTake = false ∧ t.tx = [] ∧ t.txSink = s.txSink ∧ t.rxSource = s.rxSource ∧
    t.bytesTaken = s.bytesTaken ∧ SameInputs s t

/-- The output ports (44_polling_cycle R208, 20_memory R65, R67; the port list is decision D1 of the spec): `rx_take`
says whether a byte was taken; in a cycle that emits, `tx_valid` is 1, `tx_count` is the length of the reply and the
first `tx_count` of the eight `tx_bytes` are the reply, byte 0 first; `state` is the 3-bit code. -/
def Obligations.PortsShowTheCycle : Prop :=
  ∀ s t : State, clockEdge false true s = .next t →
    step s = .next t ∧ (outPorts s t).rxTake = t.rxTake ∧ ((outPorts s t).txValid = true ↔ t.tx ≠ []) ∧
    (outPorts s t).txBytes.length = 8 ∧
    (t.tx ≠ [] → (outPorts s t).txCount.toNat = t.tx.length ∧
      (outPorts s t).txBytes.take t.tx.length = t.tx) ∧
    (outPorts s t).state.toNat = s.state.code ∧
    (outPorts s t).checksumErrCount = s.checksumErrorCount ∧
    (outPorts s t).timeoutErrCount = s.timeoutErrorCount ∧
    (s.cfg.cycleOrder = .framerFirst →
      t.rxTake = (s.state.receiving && (s.inPorts false true).rxAvail))

/-! ### Frames and exchanges -/

/-- The frame format (30_encoding R90, R92, R93): `3 + length` bytes, the length field counts payload and checksum
byte, the exclusive-or of the whole is zero. -/
def Obligations.FramesAreSealed : Prop :=
  ∀ (d s : Byte) (payload : List Byte), payload.length ≤ 254 →
    (lengthField payload).toNat = payload.length + 1 ∧
    (frameBytes d s payload).length = 3 + (lengthField payload).toNat ∧
    (frameBytes d s payload)[0]? = some d ∧ (frameBytes d s payload)[1]? = some s ∧
    (frameBytes d s payload)[2]? = some (lengthField payload) ∧
    ((frameBytes d s payload).drop 3).take payload.length = payload ∧
    xorAll (frameBytes d s payload) = 0x00

/-- The canonical requests (30_encoding R96). -/
def Obligations.CanonicalRequests : Prop :=
  ∀ d s : Byte,
    pingFrame d s = [d, s, 0x03, 0x00, 0x00, d ^^^ s ^^^ 0x03] ∧
    statusFrame d s = [d, s, 0x03, 0x00, 0x01, d ^^^ s ^^^ 0x02] ∧
    inputFrame d s = [d, s, 0x03, 0x00, 0x02, d ^^^ s ^^^ 0x01]

/-- A frame for another node is consumed whole and dropped (40_framer R126): from idle, under `FRAMER_FIRST`, with the
frame waiting in the byte source, `3 + length` cycles take its bytes and one more drops it; nothing is emitted and no
counter moves, whatever the bytes, the arrivals behind them and the time. -/
def Obligations.ForeignFrameIsConsumedWhole : Prop :=
  ∀ (s : State) (dest src len : Byte) (body rest : List Byte), Inv s → s.state = .waitAddr →
    s.cfg.cycleOrder = .framerFirst → dest ≠ s.cfg.ownAddr → len ≠ 0x00 → body.length = len.toNat →
    s.rxSource = dest :: src :: len :: body ++ rest →
    ∃ t, runCycles (3 + len.toNat + 1) s = .next t ∧ SessionCleared t ∧ t.txSink = s.txSink ∧ SameCounters s t ∧
      t.bytesTaken = s.bytesTaken + 3 + len.toNat ∧ (∃ more, t.rxSource = rest ++ more)

/-- A good request is answered (44_polling_cycle R205, 70_reset_and_hazards R271, 30_encoding R97; scenarios A and B of
the source): from idle, in either cycle order, with the request waiting in the byte source and every gap within the
bound, the reply to its command pair is emitted in cycle `3 + length + 2` and the block is idle again. -/
def Obligations.GoodRequestIsAnswered : Prop :=
  ∀ (s : State) (src p1 : Byte) (extra rest : List Byte) (first : CycleInput) (ins : List CycleInput)
    (proc resp : CycleInput) (more : List CycleInput),
    Inv s → s.state = .waitAddr → extra.length ≤ 29 → p1.toNat ≤ 2 →
    s.rxSource = frameBytes s.cfg.ownAddr src (0x00 :: p1 :: extra) ++ rest →
    s.script = first :: ins ++ proc :: resp :: more → ins.length = extra.length + 5 →
    Timely s.cfg.timeoutMs first.now ins →
    (subTs proc.now (lastTime first.now ins)).toNat ≤ s.cfg.timeoutMs.toNat →
    (subTs resp.now (lastTime first.now ins)).toNat ≤ s.cfg.timeoutMs.toNat →
    ∃ t, runCycles (extra.length + 8) s = .next t ∧ t.state = .waitAddr ∧ t.txSink = s.txSink ++ t.tx ∧
      SameCounters s t ∧ t.bytesTaken = s.bytesTaken + extra.length + 6 ∧
      (p1 = 0x00 → t.tx = frameBytes src s.cfg.ownAddr
        [s.cfg.serial.s0, s.cfg.serial.s1, s.cfg.serial.s2, s.cfg.serial.s3]) ∧
      (p1 = 0x01 → t.tx = frameBytes src s.cfg.ownAddr [s.checksumErrorCount, s.timeoutErrorCount]) ∧
      (p1 = 0x02 → t.tx = frameBytes src s.cfg.ownAddr [if resp.pin then 0x01 else 0x00])

/-! ### The graph of the phases -/

/-- The graph of the phases (10_state R21): "in strict linear order, with a single abort edge from every non-idle state
back to idle". The Framer phase stays, which it does only in a receiving phase, or takes one edge to the next phase, to a
response phase, or back to idle at the end of a frame; the monitor stays or takes the abort edge. -/
def Obligations.PhasesFollowTheirGraph : Prop :=
  ∀ s t : State,
    (framerPhase s = .next t → (t.state = s.state ∧ s.state.receiving = true) ∨
      (s.state, t.state) ∈ [(Phase.waitAddr, Phase.getSender), (.getSender, .getLen), (.getLen, .gatherData),
        (.gatherData, .processData), (.processData, .pingResponse), (.processData, .statusResponse),
        (.processData, .inputResponse), (.processData, .waitAddr), (.pingResponse, .waitAddr),
        (.statusResponse, .waitAddr), (.inputResponse, .waitAddr)]) ∧
    (monitorPhase s = .next t → t = s ∨ (s.state ≠ .waitAddr ∧ SessionCleared t))
end

