-- ==== Sys2Proof/Laws/Memory.lean ====
section
/-! SUPPORT. The laws of the payload buffer: reading after writing, and that every memory operation keeps the
canonical form. -/

namespace Sys2Proof.Machine

@[simp] theorem Memory.read_nil (a : Nat) : Memory.read [] a = 0x00 := rfl

theorem Memory.read_cons (k : Nat) (v : Byte) (rest : Memory) (a : Nat) :
    Memory.read ((k, v) :: rest) a = if a = k then v else Memory.read rest a := rfl

/-- What the canonical form says of a non-empty list. -/
theorem Memory.wfFrom_cons {lo k : Nat} {v : Byte} {rest : Memory} :
    Memory.wfFrom lo ((k, v) :: rest) = true ↔
      lo ≤ k ∧ k < bufCap ∧ v ≠ 0x00 ∧ Memory.wfFrom (k + 1) rest = true := by
  simp [Memory.wfFrom, and_assoc]

theorem Memory.wfFrom_mono {lo lo' : Nat} {m : Memory} (h : Memory.wfFrom lo m = true) (hle : lo' ≤ lo) :
    Memory.wfFrom lo' m = true := by
  cases m with
  | nil => rfl
  | cons c rest =>
    obtain ⟨h1, h2⟩ := Memory.wfFrom_cons.mp h
    exact Memory.wfFrom_cons.mpr ⟨Nat.le_trans hle h1, h2⟩

/-- Below its first address a canonical memory reads as zero. -/
theorem Memory.read_below {lo a : Nat} {m : Memory} (h : Memory.wfFrom lo m = true) (ha : a < lo) :
    m.read a = 0x00 := by
  induction m generalizing lo with
  | nil => rfl
  | cons c rest ih =>
    obtain ⟨h1, -, -, h4⟩ := Memory.wfFrom_cons.mp h
    rw [Memory.read_cons, if_neg (by omega)]
    exact ih h4 (by omega)

/-- A canonical memory reads as zero where there is no cell. -/
theorem Memory.read_beyond {lo a : Nat} {m : Memory} (h : Memory.wfFrom lo m = true) (ha : bufCap ≤ a) :
    m.read a = 0x00 := by
  induction m generalizing lo with
  | nil => rfl
  | cons c rest ih =>
    obtain ⟨-, h2, -, h4⟩ := Memory.wfFrom_cons.mp h
    rw [Memory.read_cons, if_neg (by omega)]
    exact ih h4

/-- A write leaves every other address alone. -/
theorem Memory.read_write_other {m : Memory} {a b : Nat} {v : Byte} (h : b ≠ a) :
    (m.write a v).read b = m.read b := by
  induction m with
  | nil =>
    simp only [Memory.write]
    split <;> simp [Memory.read, h]
  | cons c rest ih =>
    obtain ⟨k, w⟩ := c
    simp only [Memory.write]
    split
    · split <;> simp [Memory.read, h]
    · split
      · rename_i hak
        subst hak
        split <;> simp [Memory.read, h]
      · simp [Memory.read, ih]

/-- A read gives the byte last written. -/
theorem Memory.read_write_same {lo a : Nat} {m : Memory} {v : Byte} (h : Memory.wfFrom lo m = true) :
    (m.write a v).read a = v := by
  induction m generalizing lo with
  | nil =>
    simp only [Memory.write]
    split <;> simp_all [Memory.read]
  | cons c rest ih =>
    obtain ⟨k, w⟩ := c
    have hc := Memory.wfFrom_cons.mp h
    simp only [Memory.write]
    split
    · rename_i hak
      split
      · rename_i hv
        rw [hv]
        exact Memory.read_below (Memory.wfFrom_cons.mpr ⟨Nat.le_refl k, hc.2⟩) hak
      · simp [Memory.read]
    · split
      · rename_i hak
        subst hak
        split
        · rename_i hv
          rw [hv]
          exact Memory.read_below hc.2.2.2 (Nat.lt_succ_self a)
        · simp [Memory.read]
      · rename_i hne
        rw [Memory.read_cons, if_neg hne]
        exact ih hc.2.2.2

/-- A write keeps the canonical form. -/
theorem Memory.write_wfFrom {lo a : Nat} {m : Memory} {v : Byte} (h : Memory.wfFrom lo m = true)
    (hlo : lo ≤ a) (ha : a < bufCap) : Memory.wfFrom lo (m.write a v) = true := by
  induction m generalizing lo with
  | nil =>
    simp only [Memory.write]
    split
    · rfl
    · rename_i hv
      exact Memory.wfFrom_cons.mpr ⟨hlo, ha, hv, rfl⟩
  | cons c rest ih =>
    obtain ⟨k, w⟩ := c
    have hc := Memory.wfFrom_cons.mp h
    simp only [Memory.write]
    split
    · rename_i hak
      split
      · exact h
      · rename_i hv
        exact Memory.wfFrom_cons.mpr ⟨hlo, ha, hv, Memory.wfFrom_cons.mpr ⟨hak, hc.2⟩⟩
    · split
      · rename_i hak
        subst hak
        split
        · exact Memory.wfFrom_mono hc.2.2.2 (by omega)
        · rename_i hv
          exact Memory.wfFrom_cons.mpr ⟨hlo, ha, hv, hc.2.2.2⟩
      · exact Memory.wfFrom_cons.mpr ⟨hc.1, hc.2.1, hc.2.2.1, ih hc.2.2.2 (by omega)⟩

theorem Memory.store_wf {m : Memory} {i : Nat} {v : Byte} (h : m.wf = true) : (m.store i v).wf = true := by
  unfold Memory.store
  split
  · exact Memory.write_wfFrom h (Nat.zero_le i) ‹_›
  · exact h

@[simp] theorem Memory.nil_wf : Memory.wf [] = true := rfl

theorem Memory.read_store_other {m : Memory} {i a : Nat} {v : Byte} (h : a ≠ i) :
    (m.store i v).read a = m.read a := by
  unfold Memory.store
  split
  · exact Memory.read_write_other h
  · rfl

theorem Memory.read_store_same {m : Memory} {i : Nat} {v : Byte} (h : m.wf = true) (hi : i < bufCap) :
    (m.store i v).read i = v := by
  rw [Memory.store, if_pos hi]
  exact Memory.read_write_same h

/-- A store where there is no cell is discarded (20_memory R61). -/
theorem Memory.store_discarded {m : Memory} {i : Nat} {v : Byte} (h : bufCap ≤ i) : m.store i v = m :=
  if_neg (Nat.not_lt.mpr h)

/-- A canonical memory that reads as zero everywhere lists nothing. -/
theorem Memory.eq_nil_of_read_zero {m : Memory} (h : m.wf = true) (hz : ∀ a, m.read a = 0x00) : m = [] := by
  cases m with
  | nil => rfl
  | cons c rest =>
    obtain ⟨k, w⟩ := c
    have := hz k
    rw [Memory.read_cons, if_pos rfl] at this
    exact absurd this (Memory.wfFrom_cons.mp h).2.2.1

/-- Two canonical memories that read the same are the same list. -/
theorem Memory.ext_of_read {lo : Nat} {m n : Memory} (hm : Memory.wfFrom lo m = true)
    (hn : Memory.wfFrom lo n = true) (h : ∀ a, m.read a = n.read a) : m = n := by
  induction m generalizing lo n with
  | nil =>
    cases n with
    | nil => rfl
    | cons c rest =>
      have := h c.1
      rw [Memory.read_cons, if_pos rfl] at this
      exact absurd this.symm (Memory.wfFrom_cons.mp hn).2.2.1
  | cons c rest ih =>
    obtain ⟨k, v⟩ := c
    have hc := Memory.wfFrom_cons.mp hm
    cases n with
    | nil =>
      have := h k
      rw [Memory.read_cons, if_pos rfl] at this
      exact absurd this hc.2.2.1
    | cons d rest' =>
      obtain ⟨k', v'⟩ := d
      have hd := Memory.wfFrom_cons.mp hn
      have hkk : k = k' := by
        rcases Nat.lt_trichotomy k k' with hlt | heq | hgt
        · have := h k
          rw [Memory.read_cons, if_pos rfl,
            Memory.read_below (Memory.wfFrom_cons.mpr ⟨Nat.le_refl k', hd.2⟩) hlt] at this
          exact absurd this hc.2.2.1
        · exact heq
        · have := h k'
          rw [Memory.read_cons k', if_pos rfl,
            Memory.read_below (Memory.wfFrom_cons.mpr ⟨Nat.le_refl k, hc.2⟩) hgt] at this
          exact absurd this.symm hd.2.2.1
      subst hkk
      have hv : v = v' := by
        have := h k
        rwa [Memory.read_cons, if_pos rfl, Memory.read_cons, if_pos rfl] at this
      subst hv
      congr 1
      refine ih hc.2.2.2 hd.2.2.2 fun a => ?_
      by_cases hak : a = k
      · subst hak
        rw [Memory.read_below hc.2.2.2 (Nat.lt_succ_self a), Memory.read_below hd.2.2.2 (Nat.lt_succ_self a)]
      · have := h a
        rwa [Memory.read_cons, if_neg hak, Memory.read_cons, if_neg hak] at this

end Sys2Proof.Machine
end

