-- ==== Sys2Proof/Laws/State.lean ====
section
/-! SUPPORT. One lemma per field for every named update of the state, so that no proof unfolds a record update. -/

namespace Sys2Proof.Machine

section
variable (s : State)

/-! ### State.receive -/

@[simp] theorem State.receive_state : (s.receive).state = s.state := rfl
@[simp] theorem State.receive_senderAddr : (s.receive).senderAddr = s.senderAddr := rfl
@[simp] theorem State.receive_expectedLen : (s.receive).expectedLen = s.expectedLen := rfl
@[simp] theorem State.receive_byteCount : (s.receive).byteCount = s.byteCount := rfl
@[simp] theorem State.receive_ignoreFrame : (s.receive).ignoreFrame = s.ignoreFrame := rfl
@[simp] theorem State.receive_payloadBuffer : (s.receive).payloadBuffer = s.payloadBuffer := rfl
@[simp] theorem State.receive_lastActivityTimestamp : (s.receive).lastActivityTimestamp = s.now := rfl
@[simp] theorem State.receive_checksumErrorCount : (s.receive).checksumErrorCount = s.checksumErrorCount := rfl
@[simp] theorem State.receive_timeoutErrorCount : (s.receive).timeoutErrorCount = s.timeoutErrorCount := rfl
@[simp] theorem State.receive_cfg : (s.receive).cfg = s.cfg := rfl
@[simp] theorem State.receive_now : (s.receive).now = s.now := rfl
@[simp] theorem State.receive_pin : (s.receive).pin = s.pin := rfl
@[simp] theorem State.receive_rxSource : (s.receive).rxSource = s.rxSource.tail := rfl
@[simp] theorem State.receive_script : (s.receive).script = s.script := rfl
@[simp] theorem State.receive_cycle : (s.receive).cycle = s.cycle := rfl
@[simp] theorem State.receive_tx : (s.receive).tx = s.tx := rfl
@[simp] theorem State.receive_rxTake : (s.receive).rxTake = true := rfl
@[simp] theorem State.receive_events : (s.receive).events = s.events := rfl
@[simp] theorem State.receive_txSink : (s.receive).txSink = s.txSink := rfl
@[simp] theorem State.receive_bytesTaken : (s.receive).bytesTaken = s.bytesTaken + 1 := rfl

/-! ### State.emit -/

@[simp] theorem State.emit_state (f : List Byte) : (s.emit f).state = s.state := rfl
@[simp] theorem State.emit_senderAddr (f : List Byte) : (s.emit f).senderAddr = s.senderAddr := rfl
@[simp] theorem State.emit_expectedLen (f : List Byte) : (s.emit f).expectedLen = s.expectedLen := rfl
@[simp] theorem State.emit_byteCount (f : List Byte) : (s.emit f).byteCount = s.byteCount := rfl
@[simp] theorem State.emit_ignoreFrame (f : List Byte) : (s.emit f).ignoreFrame = s.ignoreFrame := rfl
@[simp] theorem State.emit_payloadBuffer (f : List Byte) : (s.emit f).payloadBuffer = s.payloadBuffer := rfl
@[simp] theorem State.emit_lastActivityTimestamp (f : List Byte) : (s.emit f).lastActivityTimestamp = s.lastActivityTimestamp := rfl
@[simp] theorem State.emit_checksumErrorCount (f : List Byte) : (s.emit f).checksumErrorCount = s.checksumErrorCount := rfl
@[simp] theorem State.emit_timeoutErrorCount (f : List Byte) : (s.emit f).timeoutErrorCount = s.timeoutErrorCount := rfl
@[simp] theorem State.emit_cfg (f : List Byte) : (s.emit f).cfg = s.cfg := rfl
@[simp] theorem State.emit_now (f : List Byte) : (s.emit f).now = s.now := rfl
@[simp] theorem State.emit_pin (f : List Byte) : (s.emit f).pin = s.pin := rfl
@[simp] theorem State.emit_rxSource (f : List Byte) : (s.emit f).rxSource = s.rxSource := rfl
@[simp] theorem State.emit_script (f : List Byte) : (s.emit f).script = s.script := rfl
@[simp] theorem State.emit_cycle (f : List Byte) : (s.emit f).cycle = s.cycle := rfl
@[simp] theorem State.emit_tx (f : List Byte) : (s.emit f).tx = s.tx ++ f := rfl
@[simp] theorem State.emit_rxTake (f : List Byte) : (s.emit f).rxTake = s.rxTake := rfl
@[simp] theorem State.emit_events (f : List Byte) : (s.emit f).events = s.events := rfl
@[simp] theorem State.emit_txSink (f : List Byte) : (s.emit f).txSink = s.txSink ++ f := rfl
@[simp] theorem State.emit_bytesTaken (f : List Byte) : (s.emit f).bytesTaken = s.bytesTaken := rfl

/-! ### State.resetSession -/

@[simp] theorem State.resetSession_state : (s.resetSession).state = .waitAddr := rfl
@[simp] theorem State.resetSession_senderAddr : (s.resetSession).senderAddr = 0x00 := rfl
@[simp] theorem State.resetSession_expectedLen : (s.resetSession).expectedLen = 0x00 := rfl
@[simp] theorem State.resetSession_byteCount : (s.resetSession).byteCount = 0x00 := rfl
@[simp] theorem State.resetSession_ignoreFrame : (s.resetSession).ignoreFrame = false := rfl
@[simp] theorem State.resetSession_payloadBuffer : (s.resetSession).payloadBuffer = [] := rfl
@[simp] theorem State.resetSession_lastActivityTimestamp : (s.resetSession).lastActivityTimestamp = s.lastActivityTimestamp := rfl
@[simp] theorem State.resetSession_checksumErrorCount : (s.resetSession).checksumErrorCount = s.checksumErrorCount := rfl
@[simp] theorem State.resetSession_timeoutErrorCount : (s.resetSession).timeoutErrorCount = s.timeoutErrorCount := rfl
@[simp] theorem State.resetSession_cfg : (s.resetSession).cfg = s.cfg := rfl
@[simp] theorem State.resetSession_now : (s.resetSession).now = s.now := rfl
@[simp] theorem State.resetSession_pin : (s.resetSession).pin = s.pin := rfl
@[simp] theorem State.resetSession_rxSource : (s.resetSession).rxSource = s.rxSource := rfl
@[simp] theorem State.resetSession_script : (s.resetSession).script = s.script := rfl
@[simp] theorem State.resetSession_cycle : (s.resetSession).cycle = s.cycle := rfl
@[simp] theorem State.resetSession_tx : (s.resetSession).tx = s.tx := rfl
@[simp] theorem State.resetSession_rxTake : (s.resetSession).rxTake = s.rxTake := rfl
@[simp] theorem State.resetSession_events : (s.resetSession).events = s.events := rfl
@[simp] theorem State.resetSession_txSink : (s.resetSession).txSink = s.txSink := rfl
@[simp] theorem State.resetSession_bytesTaken : (s.resetSession).bytesTaken = s.bytesTaken := rfl

/-! ### State.raise -/

@[simp] theorem State.raise_state (e : Event) : (s.raise e).state = .waitAddr := rfl
@[simp] theorem State.raise_senderAddr (e : Event) : (s.raise e).senderAddr = 0x00 := rfl
@[simp] theorem State.raise_expectedLen (e : Event) : (s.raise e).expectedLen = 0x00 := rfl
@[simp] theorem State.raise_byteCount (e : Event) : (s.raise e).byteCount = 0x00 := rfl
@[simp] theorem State.raise_ignoreFrame (e : Event) : (s.raise e).ignoreFrame = false := rfl
@[simp] theorem State.raise_payloadBuffer (e : Event) : (s.raise e).payloadBuffer = [] := rfl
@[simp] theorem State.raise_lastActivityTimestamp (e : Event) : (s.raise e).lastActivityTimestamp = s.lastActivityTimestamp := rfl
@[simp] theorem State.raise_checksumErrorCount (e : Event) : (s.raise e).checksumErrorCount = s.checksumErrorCount := rfl
@[simp] theorem State.raise_timeoutErrorCount (e : Event) : (s.raise e).timeoutErrorCount = s.timeoutErrorCount := rfl
@[simp] theorem State.raise_cfg (e : Event) : (s.raise e).cfg = s.cfg := rfl
@[simp] theorem State.raise_now (e : Event) : (s.raise e).now = s.now := rfl
@[simp] theorem State.raise_pin (e : Event) : (s.raise e).pin = s.pin := rfl
@[simp] theorem State.raise_rxSource (e : Event) : (s.raise e).rxSource = s.rxSource := rfl
@[simp] theorem State.raise_script (e : Event) : (s.raise e).script = s.script := rfl
@[simp] theorem State.raise_cycle (e : Event) : (s.raise e).cycle = s.cycle := rfl
@[simp] theorem State.raise_tx (e : Event) : (s.raise e).tx = s.tx := rfl
@[simp] theorem State.raise_rxTake (e : Event) : (s.raise e).rxTake = s.rxTake := rfl
@[simp] theorem State.raise_events (e : Event) : (s.raise e).events = s.events ++ [e] := rfl
@[simp] theorem State.raise_txSink (e : Event) : (s.raise e).txSink = s.txSink := rfl
@[simp] theorem State.raise_bytesTaken (e : Event) : (s.raise e).bytesTaken = s.bytesTaken := rfl

/-! ### State.countChecksumError -/

@[simp] theorem State.countChecksumError_state : (s.countChecksumError).state = s.state := rfl
@[simp] theorem State.countChecksumError_senderAddr : (s.countChecksumError).senderAddr = s.senderAddr := rfl
@[simp] theorem State.countChecksumError_expectedLen : (s.countChecksumError).expectedLen = s.expectedLen := rfl
@[simp] theorem State.countChecksumError_byteCount : (s.countChecksumError).byteCount = s.byteCount := rfl
@[simp] theorem State.countChecksumError_ignoreFrame : (s.countChecksumError).ignoreFrame = s.ignoreFrame := rfl
@[simp] theorem State.countChecksumError_payloadBuffer : (s.countChecksumError).payloadBuffer = s.payloadBuffer := rfl
@[simp] theorem State.countChecksumError_lastActivityTimestamp : (s.countChecksumError).lastActivityTimestamp = s.lastActivityTimestamp := rfl
@[simp] theorem State.countChecksumError_checksumErrorCount : (s.countChecksumError).checksumErrorCount = add8 s.checksumErrorCount := rfl
@[simp] theorem State.countChecksumError_timeoutErrorCount : (s.countChecksumError).timeoutErrorCount = s.timeoutErrorCount := rfl
@[simp] theorem State.countChecksumError_cfg : (s.countChecksumError).cfg = s.cfg := rfl
@[simp] theorem State.countChecksumError_now : (s.countChecksumError).now = s.now := rfl
@[simp] theorem State.countChecksumError_pin : (s.countChecksumError).pin = s.pin := rfl
@[simp] theorem State.countChecksumError_rxSource : (s.countChecksumError).rxSource = s.rxSource := rfl
@[simp] theorem State.countChecksumError_script : (s.countChecksumError).script = s.script := rfl
@[simp] theorem State.countChecksumError_cycle : (s.countChecksumError).cycle = s.cycle := rfl
@[simp] theorem State.countChecksumError_tx : (s.countChecksumError).tx = s.tx := rfl
@[simp] theorem State.countChecksumError_rxTake : (s.countChecksumError).rxTake = s.rxTake := rfl
@[simp] theorem State.countChecksumError_events : (s.countChecksumError).events = s.events := rfl
@[simp] theorem State.countChecksumError_txSink : (s.countChecksumError).txSink = s.txSink := rfl
@[simp] theorem State.countChecksumError_bytesTaken : (s.countChecksumError).bytesTaken = s.bytesTaken := rfl

/-! ### State.countTimeoutError -/

@[simp] theorem State.countTimeoutError_state : (s.countTimeoutError).state = s.state := rfl
@[simp] theorem State.countTimeoutError_senderAddr : (s.countTimeoutError).senderAddr = s.senderAddr := rfl
@[simp] theorem State.countTimeoutError_expectedLen : (s.countTimeoutError).expectedLen = s.expectedLen := rfl
@[simp] theorem State.countTimeoutError_byteCount : (s.countTimeoutError).byteCount = s.byteCount := rfl
@[simp] theorem State.countTimeoutError_ignoreFrame : (s.countTimeoutError).ignoreFrame = s.ignoreFrame := rfl
@[simp] theorem State.countTimeoutError_payloadBuffer : (s.countTimeoutError).payloadBuffer = s.payloadBuffer := rfl
@[simp] theorem State.countTimeoutError_lastActivityTimestamp : (s.countTimeoutError).lastActivityTimestamp = s.lastActivityTimestamp := rfl
@[simp] theorem State.countTimeoutError_checksumErrorCount : (s.countTimeoutError).checksumErrorCount = s.checksumErrorCount := rfl
@[simp] theorem State.countTimeoutError_timeoutErrorCount : (s.countTimeoutError).timeoutErrorCount = add8 s.timeoutErrorCount := rfl
@[simp] theorem State.countTimeoutError_cfg : (s.countTimeoutError).cfg = s.cfg := rfl
@[simp] theorem State.countTimeoutError_now : (s.countTimeoutError).now = s.now := rfl
@[simp] theorem State.countTimeoutError_pin : (s.countTimeoutError).pin = s.pin := rfl
@[simp] theorem State.countTimeoutError_rxSource : (s.countTimeoutError).rxSource = s.rxSource := rfl
@[simp] theorem State.countTimeoutError_script : (s.countTimeoutError).script = s.script := rfl
@[simp] theorem State.countTimeoutError_cycle : (s.countTimeoutError).cycle = s.cycle := rfl
@[simp] theorem State.countTimeoutError_tx : (s.countTimeoutError).tx = s.tx := rfl
@[simp] theorem State.countTimeoutError_rxTake : (s.countTimeoutError).rxTake = s.rxTake := rfl
@[simp] theorem State.countTimeoutError_events : (s.countTimeoutError).events = s.events := rfl
@[simp] theorem State.countTimeoutError_txSink : (s.countTimeoutError).txSink = s.txSink := rfl
@[simp] theorem State.countTimeoutError_bytesTaken : (s.countTimeoutError).bytesTaken = s.bytesTaken := rfl

/-! ### State.goto -/

@[simp] theorem State.goto_state (p : Phase) : (s.goto p).state = p := rfl
@[simp] theorem State.goto_senderAddr (p : Phase) : (s.goto p).senderAddr = s.senderAddr := rfl
@[simp] theorem State.goto_expectedLen (p : Phase) : (s.goto p).expectedLen = s.expectedLen := rfl
@[simp] theorem State.goto_byteCount (p : Phase) : (s.goto p).byteCount = s.byteCount := rfl
@[simp] theorem State.goto_ignoreFrame (p : Phase) : (s.goto p).ignoreFrame = s.ignoreFrame := rfl
@[simp] theorem State.goto_payloadBuffer (p : Phase) : (s.goto p).payloadBuffer = s.payloadBuffer := rfl
@[simp] theorem State.goto_lastActivityTimestamp (p : Phase) : (s.goto p).lastActivityTimestamp = s.lastActivityTimestamp := rfl
@[simp] theorem State.goto_checksumErrorCount (p : Phase) : (s.goto p).checksumErrorCount = s.checksumErrorCount := rfl
@[simp] theorem State.goto_timeoutErrorCount (p : Phase) : (s.goto p).timeoutErrorCount = s.timeoutErrorCount := rfl
@[simp] theorem State.goto_cfg (p : Phase) : (s.goto p).cfg = s.cfg := rfl
@[simp] theorem State.goto_now (p : Phase) : (s.goto p).now = s.now := rfl
@[simp] theorem State.goto_pin (p : Phase) : (s.goto p).pin = s.pin := rfl
@[simp] theorem State.goto_rxSource (p : Phase) : (s.goto p).rxSource = s.rxSource := rfl
@[simp] theorem State.goto_script (p : Phase) : (s.goto p).script = s.script := rfl
@[simp] theorem State.goto_cycle (p : Phase) : (s.goto p).cycle = s.cycle := rfl
@[simp] theorem State.goto_tx (p : Phase) : (s.goto p).tx = s.tx := rfl
@[simp] theorem State.goto_rxTake (p : Phase) : (s.goto p).rxTake = s.rxTake := rfl
@[simp] theorem State.goto_events (p : Phase) : (s.goto p).events = s.events := rfl
@[simp] theorem State.goto_txSink (p : Phase) : (s.goto p).txSink = s.txSink := rfl
@[simp] theorem State.goto_bytesTaken (p : Phase) : (s.goto p).bytesTaken = s.bytesTaken := rfl

/-! ### State.beginCycle -/

@[simp] theorem State.beginCycle_state : (s.beginCycle).state = s.state := rfl
@[simp] theorem State.beginCycle_senderAddr : (s.beginCycle).senderAddr = s.senderAddr := rfl
@[simp] theorem State.beginCycle_expectedLen : (s.beginCycle).expectedLen = s.expectedLen := rfl
@[simp] theorem State.beginCycle_byteCount : (s.beginCycle).byteCount = s.byteCount := rfl
@[simp] theorem State.beginCycle_ignoreFrame : (s.beginCycle).ignoreFrame = s.ignoreFrame := rfl
@[simp] theorem State.beginCycle_payloadBuffer : (s.beginCycle).payloadBuffer = s.payloadBuffer := rfl
@[simp] theorem State.beginCycle_lastActivityTimestamp : (s.beginCycle).lastActivityTimestamp = s.lastActivityTimestamp := rfl
@[simp] theorem State.beginCycle_checksumErrorCount : (s.beginCycle).checksumErrorCount = s.checksumErrorCount := rfl
@[simp] theorem State.beginCycle_timeoutErrorCount : (s.beginCycle).timeoutErrorCount = s.timeoutErrorCount := rfl
@[simp] theorem State.beginCycle_cfg : (s.beginCycle).cfg = s.cfg := rfl
@[simp] theorem State.beginCycle_now : (s.beginCycle).now = s.nextInput.now := rfl
@[simp] theorem State.beginCycle_pin : (s.beginCycle).pin = s.nextInput.pin := rfl
@[simp] theorem State.beginCycle_rxSource : (s.beginCycle).rxSource = s.rxSource ++ s.nextInput.arrivals := rfl
@[simp] theorem State.beginCycle_script : (s.beginCycle).script = s.script.tail := rfl
@[simp] theorem State.beginCycle_cycle : (s.beginCycle).cycle = s.cycle + 1 := rfl
@[simp] theorem State.beginCycle_tx : (s.beginCycle).tx = [] := rfl
@[simp] theorem State.beginCycle_rxTake : (s.beginCycle).rxTake = false := rfl
@[simp] theorem State.beginCycle_events : (s.beginCycle).events = [] := rfl
@[simp] theorem State.beginCycle_txSink : (s.beginCycle).txSink = s.txSink := rfl
@[simp] theorem State.beginCycle_bytesTaken : (s.beginCycle).bytesTaken = s.bytesTaken := rfl

end

end Sys2Proof.Machine
end

