-- ==== Sys2Proof/Laws/Ops.lean ====
section
/-! SUPPORT. One lemma per shared operation that says once everything it can do: the per-frame reset, raising,
the dispatch, PROCESS, TIMEOUT_CHECK, the Framer phase, the step. Proofs cite these and unfold none of them. -/

namespace Sys2Proof.Machine

/-! ### The per-frame reset and raising -/

theorem resetSession_cleared (s : State) : SessionCleared s.resetSession :=
  ⟨rfl, rfl, rfl, rfl, rfl, fun _ => rfl⟩

theorem raise_cleared (s : State) (e : Event) : SessionCleared (s.raise e) :=
  ⟨rfl, rfl, rfl, rfl, rfl, fun _ => rfl⟩

theorem resetWith_cleared (cfg : Config) : SessionCleared (State.resetWith cfg) :=
  ⟨rfl, rfl, rfl, rfl, rfl, fun _ => rfl⟩

/-! ### Exclusive-or of a list -/

@[simp] theorem xorAll_nil : xorAll [] = 0x00 := rfl

@[simp] theorem xorAll_cons (b : Byte) (l : List Byte) : xorAll (b :: l) = b ^^^ xorAll l := rfl

theorem xorAll_append (l l' : List Byte) : xorAll (l ++ l') = xorAll l ^^^ xorAll l' := by
  induction l with
  | nil => simp
  | cons b rest ih => simp [ih, BitVec.xor_assoc]

/-- A list closed by its own exclusive-or has exclusive-or zero (42_responder R162). -/
theorem xorAll_sealed (l : List Byte) : xorAll (l ++ [xorAll l]) = 0x00 := by
  simp [xorAll_append]

/-- A zero slot does not change the exclusive-or (42_responder R162). -/
theorem xorAll_zero_slot (l : List Byte) : xorAll (l ++ [0x00]) = xorAll l := by
  simp [xorAll_append]

theorem replyFrame_xor (s : State) (len : Byte) (payload : List Byte) :
    xorAll (s.replyFrame len payload) = 0x00 := by
  show xorAll (_ ++ [xorAll (_ ++ [0x00])]) = 0x00
  rw [xorAll_zero_slot, xorAll_sealed]

theorem replyFrame_length (s : State) (len : Byte) (payload : List Byte) :
    (s.replyFrame len payload).length = payload.length + 4 := by
  simp [State.replyFrame]

/-! ### The checksum and the watchdog conditions -/

theorem load_cell {s : State} {i : Nat} (h : i < bufCap) : s.load i = s.payloadBuffer.read i := if_pos h

theorem load_free {s : State} {i : Nat} (h : bufCap ≤ i) : s.load i = Config.freeCell s.cycle i :=
  if_neg (Nat.not_lt.mpr h)

/-- A frame that fits the buffer is summed over its own cells (20_memory R62). -/
theorem verificationBuffer_of_le {s : State} (h : s.byteCount.toNat ≤ bufCap) :
    s.verificationBuffer = [s.cfg.ownAddr, s.senderAddr, s.expectedLen] ++
      (List.range s.byteCount.toNat).map fun i => s.payloadBuffer.read i :=
  congrArg _ (List.map_congr_left fun _ hi => load_cell (Nat.lt_of_lt_of_le (List.mem_range.mp hi) h))

/-- A frame that fits the buffer has the same verification buffer whatever the cycle. -/
theorem verificationBuffer_begin {s : State} (h : s.byteCount.toNat ≤ bufCap) :
    s.beginCycle.verificationBuffer = s.verificationBuffer :=
  (verificationBuffer_of_le (s := s.beginCycle) h).trans (verificationBuffer_of_le h).symm

theorem expired_iff (s : State) :
    s.expired = true ↔ s.state ≠ .waitAddr ∧ s.cfg.timeoutMs.toNat < (s.now - s.lastActivityTimestamp).toNat := by
  unfold State.expired State.elapsed subTs
  rw [Bool.and_eq_true, bne_iff_ne, decide_eq_true_iff]

theorem malformedLen_iff (len : Byte) : malformedLen len = true ↔ len = 0x00 ∨ bufCap < len.toNat := by
  unfold malformedLen
  rw [Bool.or_eq_true, beq_iff_eq, decide_eq_true_iff]

theorem foreignAddr_iff (own b : Byte) : foreignAddr own b = true ↔ b ≠ own := by
  simp [foreignAddr]

/-- A command pair is one of the three exactly when its 16-bit value is at most 2 (30_encoding R95). -/
theorem definedPair_iff (p0 p1 : Byte) : definedPair p0 p1 = true ↔ p0.toNat * 256 + p1.toNat ≤ 2 := by
  have h0 := p0.isLt
  have h1 := p1.isLt
  simp only [definedPair, Bool.and_eq_true, Bool.or_eq_true, beq_iff_eq, ← BitVec.toNat_inj]
  change p0.toNat = 0 ∧ ((p1.toNat = 0 ∨ p1.toNat = 1) ∨ p1.toNat = 2) ↔ _
  omega

/-- In the idle phase the watchdog never fires (43_timeout_monitor R182). -/
theorem expired_idle {s : State} (h : s.state = .waitAddr) : s.expired = false := by
  simp [State.expired, h]

/-- Just after a received byte the watchdog does not fire. -/
theorem expired_fresh {s : State} (h : s.lastActivityTimestamp = s.now) : s.expired = false := by
  simp [State.expired, State.elapsed, subTs, h]

/-! ### The meanings -/

/-- Everything the dispatch on a command pair can do. -/
theorem dispatchPair_cases (p0 p1 : Byte) (s : State) :
    (p0 = 0x00 ∧ p1 = 0x00 ∧ dispatchPair p0 p1 s = .next (s.goto .pingResponse)) ∨
    (p0 = 0x00 ∧ p1 = 0x01 ∧ dispatchPair p0 p1 s = .next (s.goto .statusResponse)) ∨
    (p0 = 0x00 ∧ p1 = 0x02 ∧ dispatchPair p0 p1 s = .next (s.goto .inputResponse)) ∨
    (definedPair p0 p1 = false ∧ dispatchPair p0 p1 s = .next (s.raise .unknownCommand)) := by
  unfold dispatchPair
  split
  · exact .inl ⟨‹_ ∧ _›.1, ‹_ ∧ _›.2, rfl⟩
  · split
    · exact .inr (.inl ⟨‹_ ∧ _›.1, ‹_ ∧ _›.2, rfl⟩)
    · split
      · exact .inr (.inr (.inl ⟨‹_ ∧ _›.1, ‹_ ∧ _›.2, rfl⟩))
      · refine .inr (.inr (.inr ⟨?_, rfl⟩))
        simp_all [definedPair]

/-- Everything PROCESS can do (41_validator_dispatcher R139). -/
theorem execProcess_cases (s : State) :
    (s.ignoreFrame = true ∧ malformedLen s.expectedLen = true ∧ execProcess s = .next (s.raise .malformedLength)) ∨
    (s.ignoreFrame = true ∧ malformedLen s.expectedLen = false ∧ execProcess s = .next (s.raise .foreignAddress)) ∨
    (s.ignoreFrame = false ∧ xorAll s.verificationBuffer ≠ 0x00 ∧
      execProcess s = .next (s.countChecksumError.raise .checksumMismatch)) ∨
    (s.ignoreFrame = false ∧ xorAll s.verificationBuffer = 0x00 ∧
      execProcess s = dispatchPair (s.payloadBuffer.read 0) (s.payloadBuffer.read 1) s) := by
  cases hi : s.ignoreFrame
  · by_cases hx : xorAll s.verificationBuffer = 0x00
    · exact .inr (.inr (.inr ⟨rfl, hx, by simp [execProcess, hi, State.checksumResidue, hx]⟩))
    · refine .inr (.inr (.inl ⟨rfl, hx, ?_⟩))
      rw [execProcess, hi, if_neg Bool.false_ne_true, State.checksumResidue, if_pos hx]
  · cases hm : malformedLen s.expectedLen
    · exact .inr (.inl ⟨rfl, rfl, by simp [execProcess, hi, dropIgnored, hm]⟩)
    · exact .inl ⟨rfl, rfl, by simp [execProcess, hi, dropIgnored, hm]⟩

/-- The branches of PROCESS, each with the next state it answers. -/
theorem execProcess_next {s t : State} (h : execProcess s = .next t) :
    (s.ignoreFrame = true ∧ malformedLen s.expectedLen = true ∧ t = s.raise .malformedLength) ∨
    (s.ignoreFrame = true ∧ malformedLen s.expectedLen = false ∧ t = s.raise .foreignAddress) ∨
    (s.ignoreFrame = false ∧ xorAll s.verificationBuffer ≠ 0x00 ∧
      t = s.countChecksumError.raise .checksumMismatch) ∨
    (s.ignoreFrame = false ∧ xorAll s.verificationBuffer = 0x00 ∧
      ((s.payloadBuffer.read 0 = 0x00 ∧ s.payloadBuffer.read 1 = 0x00 ∧ t = s.goto .pingResponse) ∨
       (s.payloadBuffer.read 0 = 0x00 ∧ s.payloadBuffer.read 1 = 0x01 ∧ t = s.goto .statusResponse) ∨
       (s.payloadBuffer.read 0 = 0x00 ∧ s.payloadBuffer.read 1 = 0x02 ∧ t = s.goto .inputResponse) ∨
       (definedPair (s.payloadBuffer.read 0) (s.payloadBuffer.read 1) = false ∧
         t = s.raise .unknownCommand))) := by
  obtain ⟨h1, h2, e⟩ | ⟨h1, h2, e⟩ | ⟨h1, h3, e⟩ | ⟨h1, h3, e⟩ := execProcess_cases s <;>
    rw [e] at h
  · exact .inl ⟨h1, h2, by injection h with h; exact h.symm⟩
  · exact .inr (.inl ⟨h1, h2, by injection h with h; exact h.symm⟩)
  · exact .inr (.inr (.inl ⟨h1, h3, by injection h with h; exact h.symm⟩))
  · refine .inr (.inr (.inr ⟨h1, h3, ?_⟩))
    obtain ⟨a, b, e⟩ | ⟨a, b, e⟩ | ⟨a, b, e⟩ | ⟨a, e⟩ :=
      dispatchPair_cases (s.payloadBuffer.read 0) (s.payloadBuffer.read 1) s <;> rw [e] at h <;>
      injection h with h
    · exact .inl ⟨a, b, h.symm⟩
    · exact .inr (.inl ⟨a, b, h.symm⟩)
    · exact .inr (.inr (.inl ⟨a, b, h.symm⟩))
    · exact .inr (.inr (.inr ⟨a, h.symm⟩))

/-- The dispatch always answers a next state. -/
theorem dispatchPair_completes (p0 p1 : Byte) (s : State) : ∃ t, dispatchPair p0 p1 s = .next t := by
  obtain ⟨_, _, e⟩ | ⟨_, _, e⟩ | ⟨_, _, e⟩ | ⟨_, e⟩ := dispatchPair_cases p0 p1 s <;> exact ⟨_, e⟩

/-- TIMEOUT_CHECK fires (43_timeout_monitor R181). -/
theorem monitor_fires {s : State} (h : s.expired = true) :
    monitorPhase s = .next (s.countTimeoutError.raise .frameTimeout) := by
  simp [monitorPhase, exec, execTimeoutCheck, h]

/-- TIMEOUT_CHECK does not fire (43_timeout_monitor R180). -/
theorem monitor_quiet {s : State} (h : s.expired = false) : monitorPhase s = .next s := by
  simp [monitorPhase, exec, execTimeoutCheck, h]

/-! ### Two phases -/

@[simp] theorem andThen_next (s : State) (f : State → Host.Outcome State Fault Refusal) :
    andThen (.next s) f = f s := rfl

@[simp] theorem andThen_fault (r : Fault) (f : State → Host.Outcome State Fault Refusal) :
    andThen (.fault r) f = .fault r := rfl

@[simp] theorem andThen_refused (r : Refusal) (f : State → Host.Outcome State Fault Refusal) :
    andThen (.refused r) f = .refused r := rfl

theorem andThen_eq_next {r : Host.Outcome State Fault Refusal}
    {f : State → Host.Outcome State Fault Refusal} {t : State} (h : andThen r f = .next t) :
    ∃ m, r = .next m ∧ f m = .next t := by
  cases r with
  | next m => exact ⟨m, rfl, h⟩
  | fault _ => cases h
  | refused _ => cases h

/-! ### The Framer phase -/

/-- A byte is on offer exactly when the source is not empty. -/
theorem rxOffer_cons {s : State} {b : Byte} {l : List Byte} (h : s.rxSource = b :: l) : s.rxOffer = some b := by
  simp [State.rxOffer, h]

theorem framer_waitAddr {s : State} {b : Byte} (hs : s.state = .waitAddr) (hr : s.rxOffer = some b) :
    framerPhase s = execRxAddr b s := by simp [framerPhase, hs, hr, selectOperation, exec]

theorem framer_getSender {s : State} {b : Byte} (hs : s.state = .getSender) (hr : s.rxOffer = some b) :
    framerPhase s = execRxSender b s := by simp [framerPhase, hs, hr, selectOperation, exec]

theorem framer_getLen {s : State} {b : Byte} (hs : s.state = .getLen) (hr : s.rxOffer = some b) :
    framerPhase s = execRxLen b s := by simp [framerPhase, hs, hr, selectOperation, exec]

theorem framer_gatherData {s : State} {b : Byte} (hs : s.state = .gatherData) (hr : s.rxOffer = some b) :
    framerPhase s = execRxData b s := by simp [framerPhase, hs, hr, selectOperation, exec]

theorem framer_noByte {s : State} (hs : s.state.receiving = true) (hr : s.rxOffer = none) :
    framerPhase s = .next s := by
  cases h : s.state <;> simp_all [framerPhase, selectOperation, exec, execNoByte, Phase.receiving]

theorem framer_processData {s : State} (hs : s.state = .processData) : framerPhase s = execProcess s := by
  cases hr : s.rxOffer <;> simp [framerPhase, hs, selectOperation, exec]

theorem framer_pingResponse {s : State} (hs : s.state = .pingResponse) :
    framerPhase s = .next (s.emit s.pingReply).resetSession := by
  cases hr : s.rxOffer <;> simp [framerPhase, hs, selectOperation, exec, execRspPing]

theorem framer_statusResponse {s : State} (hs : s.state = .statusResponse) :
    framerPhase s = .next (s.emit s.statusReply).resetSession := by
  cases hr : s.rxOffer <;> simp [framerPhase, hs, selectOperation, exec, execRspStatus]

theorem framer_inputResponse {s : State} (hs : s.state = .inputResponse) :
    framerPhase s = .next (s.emit s.inputReply).resetSession := by
  cases hr : s.rxOffer <;> simp [framerPhase, hs, selectOperation, exec, execRspInput]

/-- Everything the Framer phase can do (44_polling_cycle R201), each case with the state it leaves. -/
theorem framerPhase_cases {s t : State} (h : framerPhase s = .next t) :
    (∃ b, s.state = .waitAddr ∧ s.rxOffer = some b ∧
      t = { s.receive with ignoreFrame := foreignAddr s.cfg.ownAddr b, state := .getSender }) ∨
    (∃ b, s.state = .getSender ∧ s.rxOffer = some b ∧ t = { s.receive with senderAddr := b, state := .getLen }) ∨
    (∃ b, s.state = .getLen ∧ s.rxOffer = some b ∧
      t = { s.receive with expectedLen := b, ignoreFrame := s.ignoreFrame || malformedLen b,
                           state := .gatherData }) ∨
    (∃ b, s.state = .gatherData ∧ s.rxOffer = some b ∧
      t = { s.receive with
        payloadBuffer := s.payloadBuffer.store s.byteCount.toNat b
        byteCount := add8 s.byteCount
        state := if add8 s.byteCount = s.expectedLen then .processData else .gatherData }) ∨
    (s.state.receiving = true ∧ s.rxOffer = none ∧ t = s) ∨
    (s.state = .processData ∧ execProcess s = .next t) ∨
    (s.state = .pingResponse ∧ t = (s.emit s.pingReply).resetSession) ∨
    (s.state = .statusResponse ∧ t = (s.emit s.statusReply).resetSession) ∨
    (s.state = .inputResponse ∧ t = (s.emit s.inputReply).resetSession) := by
  cases hs : s.state
  case waitAddr =>
    cases hr : s.rxOffer with
    | none =>
      rw [framer_noByte (by rw [hs]; rfl) hr] at h
      injection h with h
      simp_all [Phase.receiving]
    | some b =>
      rw [framer_waitAddr hs hr, execRxAddr] at h
      injection h with h
      exact .inl ⟨b, rfl, rfl, h.symm⟩
  case getSender =>
    cases hr : s.rxOffer with
    | none =>
      rw [framer_noByte (by rw [hs]; rfl) hr] at h
      injection h with h
      simp_all [Phase.receiving]
    | some b =>
      rw [framer_getSender hs hr, execRxSender] at h
      injection h with h
      exact .inr (.inl ⟨b, rfl, rfl, h.symm⟩)
  case getLen =>
    cases hr : s.rxOffer with
    | none =>
      rw [framer_noByte (by rw [hs]; rfl) hr] at h
      injection h with h
      simp_all [Phase.receiving]
    | some b =>
      rw [framer_getLen hs hr, execRxLen] at h
      injection h with h
      exact .inr (.inr (.inl ⟨b, rfl, rfl, h.symm⟩))
  case gatherData =>
    cases hr : s.rxOffer with
    | none =>
      rw [framer_noByte (by rw [hs]; rfl) hr] at h
      injection h with h
      simp_all [Phase.receiving]
    | some b =>
      rw [framer_gatherData hs hr, execRxData, hs] at h
      injection h with h
      exact .inr (.inr (.inr (.inl ⟨b, rfl, rfl, h.symm⟩)))
  case processData =>
    rw [framer_processData hs] at h
    simp_all [Phase.receiving]
  case pingResponse =>
    rw [framer_pingResponse hs] at h
    injection h with h
    simp_all [Phase.receiving]
  case statusResponse =>
    rw [framer_statusResponse hs] at h
    injection h with h
    simp_all [Phase.receiving]
  case inputResponse =>
    rw [framer_inputResponse hs] at h
    injection h with h
    simp_all [Phase.receiving]

/-! ### The step -/

theorem step_framerFirst {s : State} (h : s.cfg.cycleOrder = .framerFirst) :
    step s = andThen (framerPhase s.beginCycle) monitorPhase := by
  simp [step, pollingCycle, runPhases, h]

theorem step_timeoutFirst {s : State} (h : s.cfg.cycleOrder = .timeoutFirst) :
    step s = andThen (monitorPhase s.beginCycle) framerPhase := by
  simp [step, pollingCycle, runPhases, h]

/-- Everything a step can do: a Framer phase and a watchdog check, in the order of the configuration. -/
theorem step_cases {s t : State} (h : step s = .next t) :
    (s.cfg.cycleOrder = .framerFirst ∧ ∃ m, framerPhase s.beginCycle = .next m ∧
      ((m.expired = true ∧ t = m.countTimeoutError.raise .frameTimeout) ∨ (m.expired = false ∧ t = m))) ∨
    (s.cfg.cycleOrder = .timeoutFirst ∧
      ((s.beginCycle.expired = true ∧
        framerPhase (s.beginCycle.countTimeoutError.raise .frameTimeout) = .next t) ∨
       (s.beginCycle.expired = false ∧ framerPhase s.beginCycle = .next t))) := by
  cases ho : s.cfg.cycleOrder
  · rw [step_framerFirst ho] at h
    obtain ⟨m, hm, ht⟩ := andThen_eq_next h
    refine .inl ⟨rfl, m, hm, ?_⟩
    cases he : m.expired
    · rw [monitor_quiet he] at ht
      injection ht with ht
      exact .inr ⟨rfl, ht.symm⟩
    · rw [monitor_fires he] at ht
      injection ht with ht
      exact .inl ⟨rfl, ht.symm⟩
  · rw [step_timeoutFirst ho] at h
    obtain ⟨m, hm, ht⟩ := andThen_eq_next h
    refine .inr ⟨rfl, ?_⟩
    cases he : s.beginCycle.expired
    · rw [monitor_quiet he] at hm
      injection hm with hm
      exact .inr ⟨rfl, by rw [hm]; exact ht⟩
    · rw [monitor_fires he] at hm
      injection hm with hm
      exact .inl ⟨rfl, by rw [hm]; exact ht⟩

/-- FRAMER_FIRST, no timeout: the cycle is its Framer phase. -/
theorem step_framerFirst_quiet {s m : State} (ho : s.cfg.cycleOrder = .framerFirst)
    (hm : framerPhase s.beginCycle = .next m) (he : m.expired = false) : step s = .next m := by
  rw [step_framerFirst ho, hm, andThen_next, monitor_quiet he]

/-- FRAMER_FIRST, the gap expired after the Framer phase. -/
theorem step_framerFirst_fires {s m : State} (ho : s.cfg.cycleOrder = .framerFirst)
    (hm : framerPhase s.beginCycle = .next m) (he : m.expired = true) :
    step s = .next (m.countTimeoutError.raise .frameTimeout) := by
  rw [step_framerFirst ho, hm, andThen_next, monitor_fires he]

/-- TIMEOUT_FIRST, no timeout: the cycle is its Framer phase. -/
theorem step_timeoutFirst_quiet {s m : State} (ho : s.cfg.cycleOrder = .timeoutFirst)
    (he : s.beginCycle.expired = false) (hm : framerPhase s.beginCycle = .next m) : step s = .next m := by
  rw [step_timeoutFirst ho, monitor_quiet he, andThen_next, hm]

/-- TIMEOUT_FIRST, the gap expired and no byte on offer. -/
theorem step_timeoutFirst_fires_silent {s : State} (ho : s.cfg.cycleOrder = .timeoutFirst)
    (he : s.beginCycle.expired = true) (hr : s.beginCycle.rxOffer = none) :
    step s = .next (s.beginCycle.countTimeoutError.raise .frameTimeout) := by
  rw [step_timeoutFirst ho, monitor_fires he, andThen_next]
  exact framer_noByte rfl hr

/-- TIMEOUT_FIRST, the gap expired and a byte on offer, which is taken as a destination address. -/
theorem step_timeoutFirst_fires_byte {s : State} {b : Byte} (ho : s.cfg.cycleOrder = .timeoutFirst)
    (he : s.beginCycle.expired = true) (hr : s.beginCycle.rxOffer = some b) :
    step s = .next { (s.beginCycle.countTimeoutError.raise .frameTimeout).receive with
      ignoreFrame := foreignAddr s.cfg.ownAddr b, state := .getSender } := by
  rw [step_timeoutFirst ho, monitor_fires he, andThen_next]
  exact framer_waitAddr rfl hr

/-- Without a timeout before or after the Framer phase, the cycle is its Framer phase, in either order. -/
theorem step_quiet {s m : State} (hb : s.beginCycle.expired = false) (hm : framerPhase s.beginCycle = .next m)
    (he : m.expired = false) : step s = .next m := by
  cases ho : s.cfg.cycleOrder
  · exact step_framerFirst_quiet ho hm he
  · exact step_timeoutFirst_quiet ho hb hm

end Sys2Proof.Machine
end

