-- ==== Sys2Proof/Laws/PerInstr.lean ====
section
/-! SUPPORT. Statements made once per instruction. `EncodesItsRow`: a well-formed instruction has a word its row of
spec/opcode_table.json accepts (30_encoding R104). -/

namespace Sys2Proof.Laws

/-- The value a row is selected by, of a word in the row's format: the first byte of a SEQ or RSP word, the 16 bits
of a REQ word, nothing for CHK (30_encoding R104). -/
def selectingValue : Format → List Byte → Nat
  | .seq, bytes => (bytes.headD 0x00).toNat
  | .chk, _     => 0
  | .req, bytes => (bytes.headD 0x00).toNat * 256 + (bytes.tail.headD 0x00).toNat
  | .rsp, bytes => (bytes.headD 0x00).toNat

/-- A well-formed instruction's encoding is accepted by its row. -/
def EncodesItsRow.Statement (i : Instr) : Prop :=
  WellFormed i → i.row.accepts (selectingValue i.row.fmt (encode i)) = true

theorem EncodesItsRow.rxAddr (b : Byte) : EncodesItsRow.Statement (.rxAddr b) := fun _ => by
  simp [selectingValue, encode, TableRow.accepts, Instr.row]
theorem EncodesItsRow.rxSender (b : Byte) : EncodesItsRow.Statement (.rxSender b) := fun _ => by
  simp [selectingValue, encode, TableRow.accepts, Instr.row]
theorem EncodesItsRow.rxLen (b : Byte) : EncodesItsRow.Statement (.rxLen b) := fun _ => by
  simp [selectingValue, encode, TableRow.accepts, Instr.row]
theorem EncodesItsRow.rxData (b : Byte) : EncodesItsRow.Statement (.rxData b) := fun _ => by
  simp [selectingValue, encode, TableRow.accepts, Instr.row]
theorem EncodesItsRow.noByte : EncodesItsRow.Statement .noByte := fun _ => rfl
theorem EncodesItsRow.process : EncodesItsRow.Statement .process := fun _ => rfl
theorem EncodesItsRow.rspPing : EncodesItsRow.Statement .rspPing := fun _ => rfl
theorem EncodesItsRow.rspStatus : EncodesItsRow.Statement .rspStatus := fun _ => rfl
theorem EncodesItsRow.rspInput : EncodesItsRow.Statement .rspInput := fun _ => rfl
theorem EncodesItsRow.timeoutCheck : EncodesItsRow.Statement .timeoutCheck := fun _ => rfl
theorem EncodesItsRow.ping : EncodesItsRow.Statement .ping := fun _ => rfl
theorem EncodesItsRow.status : EncodesItsRow.Statement .status := fun _ => rfl
theorem EncodesItsRow.input : EncodesItsRow.Statement .input := fun _ => rfl
theorem EncodesItsRow.unknown (p0 p1 : Byte) : EncodesItsRow.Statement (.unknown p0 p1) := fun _ => by
  simp [TableRow.accepts, Instr.row]
theorem EncodesItsRow.replyPing : EncodesItsRow.Statement .replyPing := fun _ => rfl
theorem EncodesItsRow.replyStatus : EncodesItsRow.Statement .replyStatus := fun _ => rfl
theorem EncodesItsRow.replyInput : EncodesItsRow.Statement .replyInput := fun _ => rfl

end Sys2Proof.Laws
end

