-- ==== Sys2Proof/Laws/Runs.lean ====
section
/-! SUPPORT. Runs of polling cycles: unrolling a run, one receiving cycle, and the whole of `GatherData`. -/

namespace Sys2Proof.Machine

theorem run_zero (s : State) : runCycles 0 s = .next s := rfl

theorem run_succ {n : Nat} {s t : State} (h : step s = .next t) : runCycles (n + 1) s = runCycles n t := by
  have h' : core.step s = .next t := h
  simp only [runCycles, Host.Core.run]
  rw [h']

theorem run_add {n m : Nat} {s t : State} (h : runCycles n s = .next t) :
    runCycles (n + m) s = runCycles m t := by
  induction n generalizing s with
  | zero => cases h; rw [Nat.zero_add]
  | succ n ih =>
    cases hs : step s with
    | next u =>
      rw [run_succ hs] at h
      rw [show n + 1 + m = (n + m) + 1 by omega, run_succ hs]
      exact ih h
    | fault r =>
      have h' : core.step s = .fault r := hs
      simp only [runCycles, Host.Core.run] at h
      rw [h'] at h
      cases h
    | refused r =>
      have h' : core.step s = .refused r := hs
      simp only [runCycles, Host.Core.run] at h
      rw [h'] at h
      cases h

/-- A byte waiting in the source is on offer in the next cycle. -/
theorem begin_offer {s : State} {b : Byte} {l : List Byte} (h : s.rxSource = b :: l) :
    s.beginCycle.rxOffer = some b := by simp [State.rxOffer, h]

theorem nextInput_cons {s : State} {inp : CycleInput} {more : List CycleInput} (h : s.script = inp :: more) :
    s.nextInput = inp := by simp [State.nextInput, h]

/-- A cycle whose time is within the bound starts with the gap not expired. -/
theorem begin_timely {s : State} {inp : CycleInput} {more : List CycleInput} (hs : s.script = inp :: more)
    (h : (subTs inp.now s.lastActivityTimestamp).toNat ≤ s.cfg.timeoutMs.toNat) :
    s.beginCycle.expired = false := by
  rw [Bool.eq_false_iff]
  intro hc
  have h2 : s.cfg.timeoutMs.toNat < (s.nextInput.now - s.lastActivityTimestamp).toNat :=
    ((expired_iff _).mp hc).2
  rw [nextInput_cons hs] at h2
  exact absurd h (Nat.not_le.mpr h2)

/-- A receiving cycle in which the monitor does not fire first is its Framer phase. -/
theorem step_receives {s t : State} (hq : s.cfg.cycleOrder = .framerFirst ∨ s.beginCycle.expired = false)
    (hf : framerPhase s.beginCycle = .next t) (ht : t.expired = false) : step s = .next t := by
  rcases hq with h | h
  · exact step_framerFirst_quiet h hf ht
  · exact step_quiet h hf ht

theorem add8_toNat {x : Byte} (h : x.toNat < 255) : (add8 x).toNat = x.toNat + 1 := by
  rw [add8, BitVec.toNat_add, Nat.mod_eq_of_lt]
  · rfl
  · show _ + 1 < _
    omega

/-- One cycle of `GatherData` with a byte on offer. -/
theorem step_gathers {s : State} {b : Byte} {l : List Byte} (hs : s.state = .gatherData)
    (hsrc : s.rxSource = b :: l) (hq : s.cfg.cycleOrder = .framerFirst ∨ s.beginCycle.expired = false) :
    step s = .next { s.beginCycle.receive with
      payloadBuffer := s.payloadBuffer.store s.byteCount.toNat b
      byteCount := add8 s.byteCount
      state := if add8 s.byteCount = s.expectedLen then .processData else .gatherData } := by
  have hf := framer_gatherData (s := s.beginCycle) hs (begin_offer hsrc)
  rw [step_receives hq hf (expired_fresh rfl)]
  show Host.Outcome.next { s.beginCycle.receive with
    payloadBuffer := s.payloadBuffer.store s.byteCount.toNat b
    byteCount := add8 s.byteCount
    state := if add8 s.byteCount = s.expectedLen then Phase.processData else s.state } = _
  rw [hs]

end Sys2Proof.Machine
end

