-- ==== Sys2Proof/Tests/Slice0.lean ====
section
/-! SUPPORT. Tests on single steps, with expected results from spec/ (the vector or rule is named in each comment),
the smoke test of WellFormed, the decoding of written-out words, and for every obligation with hypotheses a witness
that meets them. -/

namespace Sys2Proof.Tests

open Sys2Proof Sys2Proof.Machine

/-! ### Helpers -/

/-- The next state of an outcome, if it is one. -/
def nextOf (r : Host.Outcome State Fault Refusal) : Option State :=
  match r with
  | .next t => some t
  | .fault _ => none
  | .refused _ => none

/-- The reset state in another phase. -/
def inPhase (p : Phase) : State := { State.reset with state := p }

/-- `s` with one cycle input to come: the time, a byte or none, the pin. -/
def offered (s : State) (now : TimeStamp) (b : Option Byte) (pin : Bool) : State :=
  { s with script := [{ now := now, arrivals := b.toList, pin := pin }] }

/-- `ProcessData` with the buffer cells of a gathered frame from `sender` (95_test_vectors section 3.2). -/
def gathered (sender len count : Byte) (ignored : Bool) (cells : Memory) : State :=
  { State.reset with state := .processData, senderAddr := sender, expectedLen := len, byteCount := count,
                     ignoreFrame := ignored, payloadBuffer := cells }

/-- VD1: a good PING from 0x09. -/
def pingGathered : State := gathered 0x09 3 3 false [(2, 0x08)]

/-- VD7: the same with a wrong checksum byte. -/
def badGathered : State := gathered 0x09 3 3 false [(2, 0x09)]

/-- A response phase with the request's sender 0x09 (95_test_vectors section 3.3). -/
def replying (p : Phase) (ckErr toErr : Byte) : State :=
  { pingGathered with state := p, checksumErrorCount := ckErr, timeoutErrorCount := toErr }

/-- A state for TIMEOUT_CHECK alone (95_test_vectors section 3.4). -/
def timed (p : Phase) (last now : TimeStamp) : State :=
  { State.reset with state := p, lastActivityTimestamp := last, now := now }

/-- The same configuration with the other cycle order. -/
def timeoutFirst (s : State) : State := { s with cfg := { s.cfg with cycleOrder := .timeoutFirst } }

/-! ### WellFormed: ill-formed terms are refused (30_encoding R95: the three defined pairs are not `UNKNOWN`) -/

theorem test_wf_refuses_unknown_ping_pair : ¬ WellFormed (.unknown 0x00 0x00) := by decide
theorem test_wf_refuses_unknown_status_pair : ¬ WellFormed (.unknown 0x00 0x01) := by decide
theorem test_wf_refuses_unknown_input_pair : ¬ WellFormed (.unknown 0x00 0x02) := by decide
theorem test_wf_admits_unknown_neighbours :
    WellFormed (.unknown 0x00 0x03) ∧ WellFormed (.unknown 0x01 0x00) ∧ WellFormed (.unknown 0x02 0x02) := by decide

/-! ### Decoding: words written out from 10_state R21 (code, then rx_avail), 30_encoding R95 and R98 -/

theorem test_decode_seq_receiving :
    decode .seq [0b00000001, 0x02] = .instr (.rxAddr 0x02) [] ∧
    decode .seq [0b00000011, 0x09] = .instr (.rxSender 0x09) [] ∧
    decode .seq [0b00000101, 0x03] = .instr (.rxLen 0x03) [] ∧
    decode .seq [0b00000111, 0xAB] = .instr (.rxData 0xAB) [] := by decide

theorem test_decode_seq_nobyte :
    decode .seq [0b00000000] = .instr .noByte [] ∧ decode .seq [0b00000010] = .instr .noByte [] ∧
    decode .seq [0b00000100] = .instr .noByte [] ∧ decode .seq [0b00000110] = .instr .noByte [] := by decide

theorem test_decode_seq_silent_phases :
    decode .seq [0b00001000] = .instr .process [] ∧ decode .seq [0b00001001] = .instr .process [] ∧
    decode .seq [0b00001010] = .instr .rspPing [] ∧ decode .seq [0b00001101] = .instr .rspStatus [] ∧
    decode .seq [0b00001110] = .instr .rspInput [] := by decide

theorem test_decode_chk : decode .chk [] = .instr .timeoutCheck [] := by decide

theorem test_decode_req :
    decode .req [0x00, 0x00] = .instr .ping [] ∧ decode .req [0x00, 0x01] = .instr .status [] ∧
    decode .req [0x00, 0x02] = .instr .input [] ∧ decode .req [0x00, 0x03] = .instr (.unknown 0x00 0x03) [] ∧
    decode .req [0xFF, 0xFF] = .instr (.unknown 0xFF 0xFF) [] := by decide

theorem test_decode_rsp :
    decode .rsp [0x05] = .instr .replyPing [] ∧ decode .rsp [0x03] = .instr .replyStatus [] ∧
    decode .rsp [0x02] = .instr .replyInput [] := by decide

theorem test_decode_rejects_by_name :
    decode .seq [] = .rejected .truncated ∧ decode .seq [0x01] = .rejected .truncated ∧
    decode .seq [0x11, 0x02] = .rejected (.notASelection 0x11) ∧ decode .req [0x00] = .rejected .truncated ∧
    decode .rsp [0x00] = .rejected (.notAReplyLength 0x00) := by decide

/-- The table's own numbers: match values of spec/opcode_table.json (SEQ 4 bits, CHK none, REQ 16). -/
theorem test_decode_table_words :
    decodeTableWord 8 0x1 = some (.rxAddr 0x00) ∧ decodeTableWord 8 0xE = some .rspInput ∧
    decodeTableWord 0 0x0 = some .timeoutCheck ∧ decodeTableWord 16 0x0002 = some .input ∧
    decodeTableWord 16 0x0100 = some (.unknown 0x01 0x00) := by decide

/-- A placed word is the one the next step runs (log entry 11): RX_SENDER, PROCESS, and the command STATUS. -/
theorem test_step_runs_placed_words :
    (nextOf (step (State.reset.withFetchWord 8 0x3))).map (fun t => (t.state, t.rxTake)) = some (.getLen, true) ∧
    (nextOf (step (State.reset.withFetchWord 8 0x8))).map (·.state) = some .waitAddr ∧
    (nextOf (step (State.reset.withFetchWord 16 0x0001))).map (·.state) = some .statusResponse := by decide

/-! ### The Framer: vectors VF of 95_test_vectors section 3.1 -/

/-- VF1 -/
theorem test_rxAddr_own : (nextOf (step (offered State.reset 7 (some 0x02) false))).map
    (fun t => (t.state, t.ignoreFrame, t.lastActivityTimestamp, t.rxTake)) =
    some (.getSender, false, 7, true) := by decide

/-- VF4 -/
theorem test_rxAddr_foreign : (nextOf (step (offered State.reset 7 (some 0xFF) false))).map
    (fun t => (t.state, t.ignoreFrame)) = some (.getSender, true) := by decide

/-- VF5 -/
theorem test_rxSender : (nextOf (step (offered (inPhase .getSender) 8 (some 0x09) false))).map
    (fun t => (t.senderAddr, t.state, t.lastActivityTimestamp)) = some (0x09, .getLen, 8) := by decide

/-- VF9: the largest receivable length -/
theorem test_rxLen_32 : (nextOf (step (offered (inPhase .getLen) 0 (some 0x20) false))).map
    (fun t => (t.expectedLen, t.ignoreFrame, t.state)) = some (32, false, .gatherData) := by decide

/-- VF10: oversize -/
theorem test_rxLen_33 : (nextOf (step (offered (inPhase .getLen) 0 (some 0x21) false))).map
    (fun t => (t.expectedLen, t.ignoreFrame, t.state)) = some (33, true, .gatherData) := by decide

/-- VF15 -/
theorem test_rxData_last :
    (nextOf (step (offered { inPhase .gatherData with expectedLen := 3, byteCount := 2 } 0 (some 0x08) false))).map
    (fun t => (t.payloadBuffer, t.byteCount, t.state)) = some ([(2, 0x08)], 3, .processData) := by decide

/-- VF18: the count wraps, nothing is stored -/
theorem test_rxData_wraps :
    (nextOf (step (offered { inPhase .gatherData with ignoreFrame := true, byteCount := 255 } 0 (some 0x11)
      false))).map (fun t => (t.payloadBuffer, t.byteCount, t.state)) = some ([], 0, .processData) := by decide

/-- VF19: elapsed 10, nothing changes -/
theorem test_noByte :
    (nextOf (step (offered { inPhase .gatherData with expectedLen := 3, byteCount := 1, lastActivityTimestamp := 50 }
      60 none false))).map (fun t => (t.state, t.byteCount, t.lastActivityTimestamp, t.rxTake)) =
    some (.gatherData, 1, 50, false) := by decide

/-! ### The Validator and the Dispatcher: vectors VD of 95_test_vectors section 3.2 -/

/-- VD13: the counter wraps -/
theorem test_process_bad_checksum_wraps :
    (nextOf (exec .process { badGathered with checksumErrorCount := 255 })).map
    (fun t => (t.state, t.checksumErrorCount, t.events)) = some (.waitAddr, 0, [.checksumMismatch]) := by decide

/-- VD12: a length-1 frame from 0x03 is a PING -/
theorem test_process_length_1 :
    (nextOf (exec .process (gathered 0x03 1 1 false []))).map (·.state) = some .pingResponse := by decide

/-- VD1 to VD3 through PROCESS: the registers are kept -/
theorem test_commands :
    (nextOf (exec .process pingGathered)).map (fun t => (t.state, t.senderAddr)) = some (.pingResponse, 0x09) ∧
    (nextOf (exec .process (gathered 0x09 3 3 false [(1, 0x01), (2, 0x09)]))).map (·.state) =
      some .statusResponse ∧
    (nextOf (exec .process (gathered 0x09 3 3 false [(1, 0x02), (2, 0x0A)]))).map (·.state) =
      some .inputResponse := by decide

/-- VD5 -/
theorem test_unknown :
    (nextOf (exec .process (gathered 0x09 3 3 false [(0, 0x01), (2, 0x09)]))).map
    (fun t => (t.state, t.events, t.checksumErrorCount, t.senderAddr)) =
    some (.waitAddr, [.unknownCommand], 0, 0x00) := by decide

/-! ### The Responder: vectors VR of 95_test_vectors section 3.3 -/

/-- VR1 -/
theorem test_rspPing : (nextOf (step (offered (replying .pingResponse 0 0) 0 none false))).map
    (fun t => (t.tx, t.state)) = some ([0x09, 0x02, 0x05, 0xDE, 0xAD, 0xBE, 0xEF, 0x2C], .waitAddr) := by decide

/-- VR6: the counters go out checksum first and stay -/
theorem test_rspStatus : (nextOf (step (offered (replying .statusResponse 3 2) 0 none false))).map
    (fun t => (t.tx, t.checksumErrorCount, t.timeoutErrorCount)) =
    some ([0x09, 0x02, 0x03, 0x03, 0x02, 0x09], 3, 2) := by decide

/-- VR8 and VR11: the pin is sampled in the reply's cycle -/
theorem test_rspInput :
    (nextOf (step (offered (replying .inputResponse 0 0) 0 none true))).map (·.tx) =
      some [0x09, 0x02, 0x02, 0x01, 0x08] ∧
    (nextOf (step (offered { replying .inputResponse 0 0 with pin := true } 0 none false))).map (·.tx) =
      some [0x09, 0x02, 0x02, 0x00, 0x09] := by decide

/-- VR3, VR7, VR10 through the reply rows -/
theorem test_replies :
    (nextOf (exec .replyPing { pingGathered with cfg := { Config.reference with serial := ⟨1, 2, 3, 4⟩ } })).map
      (·.tx) = some [0x09, 0x02, 0x05, 0x01, 0x02, 0x03, 0x04, 0x0A] ∧
    (nextOf (exec .replyStatus (replying .statusResponse 0xFF 0x80))).map (·.tx) =
      some [0x09, 0x02, 0x03, 0xFF, 0x80, 0x77] ∧
    (nextOf (exec .replyInput { State.reset with pin := true })).map (·.tx) =
      some [0x00, 0x02, 0x02, 0x01, 0x01] := by decide

/-! ### The Timeout Monitor: vectors VT of 95_test_vectors section 3.4 -/

/-- VT2, VT3 and VT10 -/
theorem test_timeoutCheck_bound :
    (nextOf (exec .timeoutCheck (timed .gatherData 100 115))).map (·.state) = some .gatherData ∧
    (nextOf (exec .timeoutCheck (timed .gatherData 100 116))).map
      (fun t => (t.state, t.timeoutErrorCount, t.events)) = some (.waitAddr, 1, [.frameTimeout]) ∧
    (nextOf (exec .timeoutCheck { timed .gatherData 0 16 with timeoutErrorCount := 255 })).map
      (·.timeoutErrorCount) = some 0 := by decide

/-- VT7, VT8 and VT9: idle is not guarded; elapsed time is modulo 2^32 -/
theorem test_timeoutCheck_wrap :
    (nextOf (exec .timeoutCheck (timed .waitAddr 0 1000000))).map (·.timeoutErrorCount) = some 0 ∧
    (nextOf (exec .timeoutCheck (timed .gatherData 0xFFFFFFFB 0x0000000A))).map (·.state) = some .gatherData ∧
    (nextOf (exec .timeoutCheck (timed .gatherData 0xFFFFFFFB 0x0000000B))).map (·.state) =
      some .waitAddr := by decide

/-! ### Witnesses: for every obligation with hypotheses, states and operands that meet them all, each clause at the
ends of its range -/

theorem witness_DecodeOfEncodeIsIdentity :
    WellFormed (.unknown 0x00 0x03) ∧ WellFormed (.unknown 0xFF 0xFF) ∧ WellFormed (.rxData 0xFF) := by decide

theorem witness_DecodedInstructionMatchesItsRow :
    decode .seq [0x0F, 0x01] = .instr .rspInput [0x01] ∧ decode .req [0x00, 0x03] = .instr (.unknown 0x00 0x03) [] ∧
    decode .rsp [0x02, 0x05] = .instr .replyInput [0x05] := by decide

theorem witness_SelectionFollowsThePhaseTable :
    (({ inPhase .gatherData with rxSource := [0xAB] } : State).rxOffer = some 0xAB ∧
      (Phase.gatherData, Instr.rxData 0xAB) ∈ [(Phase.waitAddr, Instr.rxAddr 0xAB),
        (Phase.getSender, Instr.rxSender 0xAB), (Phase.getLen, Instr.rxLen 0xAB),
        (Phase.gatherData, Instr.rxData 0xAB)]) ∧
    ((inPhase .getLen).state.receiving = true ∧ (inPhase .getLen).rxOffer = none) ∧
    ((inPhase .inputResponse).state, Instr.rspInput) ∈ [(Phase.processData, Instr.process),
      (Phase.pingResponse, Instr.rspPing), (Phase.statusResponse, Instr.rspStatus),
      (Phase.inputResponse, Instr.rspInput)] := by decide

theorem witness_StepRunsDecodedOperation :
    ((offered State.reset 7 (some 0x02) false).cfg.cycleOrder = .framerFirst ∧
      decode .seq (offered State.reset 7 (some 0x02) false).beginCycle.fetchBytes = .instr (.rxAddr 0x02) []) ∧
    ∃ m, (timeoutFirst (offered (inPhase .getLen) 16 (some 0x03) false)).cfg.cycleOrder = .timeoutFirst ∧
      exec .timeoutCheck (timeoutFirst (offered (inPhase .getLen) 16 (some 0x03) false)).beginCycle = .next m ∧
      decode .seq m.fetchBytes = .instr (.rxAddr 0x03) [] :=
  ⟨by decide, _, rfl, rfl, by decide⟩

theorem witness_ProcessRunsDecodedCommand :
    pingGathered.ignoreFrame = false ∧
    xorAll pingGathered.verificationBuffer = 0x00 ∧ decode .req pingGathered.commandPair = .instr .ping [] := by
  decide

theorem witness_CycleSamplesItsInputs :
    (offered State.reset 7 (some 0x02) true).script = { now := 7, arrivals := [0x02], pin := true } :: [] := rfl

/-- VF14, VF15, VF17, VF18: the four clauses, at counts 0, 31, 32 and 255. -/
theorem witness_RxDataAppendsTheByte :
    State.reset.payloadBuffer.wf = true ∧
    (({ inPhase .gatherData with expectedLen := 32, byteCount := 31 } : State).byteCount + 1 = 32) ∧
    (({ inPhase .gatherData with expectedLen := 0, byteCount := 255 } : State).byteCount + 1 = 0) ∧
    (({ inPhase .gatherData with expectedLen := 3 } : State).byteCount + 1 ≠ 3) ∧
    ((31 : Byte).toNat < 32 ∧ (0 : Nat) ≠ (31 : Byte).toNat) ∧ 32 ≤ (32 : Byte).toNat := by decide

theorem witness_NoByteChangesNothing :
    State.reset.state.receiving = true ∧ State.reset.rxOffer = none := by decide

theorem witness_SourcePolledOnlyInReceivingPhases :
    (∃ t, framerPhase { inPhase .getLen with rxSource := [0x03, 0x00] } = .next t ∧
      ({ inPhase .getLen with rxSource := [0x03, 0x00] } : State).state.receiving = true ∧
      ({ inPhase .getLen with rxSource := [0x03, 0x00] } : State).rxOffer = some 0x03) ∧
    (∃ t, framerPhase { pingGathered with rxSource := [0x02] } = .next t ∧
      ({ pingGathered with rxSource := [0x02] } : State).state.receiving = false) ∧
    (∃ t, framerPhase State.reset = .next t ∧ State.reset.state.receiving = true ∧ State.reset.rxOffer = none) :=
  ⟨⟨_, rfl, rfl, rfl⟩, ⟨_, rfl, rfl⟩, ⟨_, rfl, rfl, rfl⟩⟩

/-- VD8 to VD10, with the lengths 1 and 32 (foreign), 0, 33 and 255 (malformed). -/
theorem witness_IgnoredFrameIsDropped :
    (gathered 0x09 1 1 true []).ignoreFrame = true ∧
    ((0x00 : Byte) = 0x00 ∧ 32 < (0x21 : Byte).toNat ∧ 32 < (0xFF : Byte).toNat) ∧
    ((0x01 : Byte) ≠ 0x00 ∧ (0x01 : Byte).toNat ≤ 32 ∧ (0x20 : Byte) ≠ 0x00 ∧ (0x20 : Byte).toNat ≤ 32) := by decide

theorem witness_BadChecksumIsCountedAndDropped :
    badGathered.ignoreFrame = false ∧
    xorAll badGathered.verificationBuffer ≠ 0x00 ∧
    ({ badGathered with checksumErrorCount := 0xFF } : State).checksumErrorCount = 0xFF := by decide

/-- A good frame of 32 gathered bytes from 0x22, whose cells past the pair are zero: the count at its largest. -/
theorem witness_GoodFrameSelectsItsReply :
    (let s := gathered 0x09 3 3 false [(2, 0x08)]
     s.ignoreFrame = false ∧ s.byteCount.toNat ≤ 32 ∧ xorAll s.verificationBuffer = 0x00 ∧
     s.payloadBuffer.read 0 = 0x00 ∧ s.payloadBuffer.read 1 = 0x00) ∧
    (let s := gathered 0x09 3 3 false [(1, 0x01), (2, 0x09)]
     s.ignoreFrame = false ∧ s.byteCount.toNat ≤ 32 ∧ xorAll s.verificationBuffer = 0x00 ∧
     s.payloadBuffer.read 0 = 0x00 ∧ s.payloadBuffer.read 1 = 0x01) ∧
    (let s := gathered 0x09 3 3 false [(1, 0x02), (2, 0x0A)]
     s.ignoreFrame = false ∧ s.byteCount.toNat ≤ 32 ∧ xorAll s.verificationBuffer = 0x00 ∧
     s.payloadBuffer.read 0 = 0x00 ∧ s.payloadBuffer.read 1 = 0x02) ∧
    (let s := gathered 0x22 32 32 false []
     s.ignoreFrame = false ∧ s.byteCount.toNat ≤ 32 ∧ xorAll s.verificationBuffer = 0x00 ∧
     s.payloadBuffer.read 0 = 0x00 ∧ s.payloadBuffer.read 1 = 0x00) :=
  ⟨by decide, by decide, by decide, rfl, by decide, rfl, rfl, rfl⟩

/-- VD4 and VD6. -/
theorem witness_UnknownCommandIsDropped :
    ∀ cells ∈ ([[(1, 0x03), (2, 0x0B)], [(0, 0xFF), (1, 0xFF), (2, 0x08)]] : List Memory),
      let s := gathered 0x09 3 3 false cells
      s.ignoreFrame = false ∧ s.byteCount.toNat ≤ 32 ∧ xorAll s.verificationBuffer = 0x00 ∧
      ¬ (s.payloadBuffer.read 0 = 0x00 ∧ (s.payloadBuffer.read 1 = 0x00 ∨ s.payloadBuffer.read 1 = 0x01 ∨
          s.payloadBuffer.read 1 = 0x02)) := by decide

/-- Two gathered frames that differ in every field PROCESS does not read, cell 3 above the count among them; two ignored
frames that differ in sender, count and cells; counts 32, 33 and 255 at the last cell and above it. -/
theorem witness_ProcessReadsOnlyItsOperands :
    (let s := pingGathered
     let s' : State := { gathered 0x09 3 3 false [(2, 0x08), (3, 0x77)] with
       state := .getLen, lastActivityTimestamp := 7, now := 9, pin := true, checksumErrorCount := 5,
       timeoutErrorCount := 6, rxSource := [0x01], cycle := 4, cfg := { s.cfg with timeoutMs := 1 } }
     s'.ignoreFrame = s.ignoreFrame ∧ s'.expectedLen = s.expectedLen ∧ s'.cfg.ownAddr = s.cfg.ownAddr ∧
     s'.senderAddr = s.senderAddr ∧ s'.byteCount = s.byteCount ∧ ¬ 32 < s.byteCount.toNat ∧
     ∀ i < 32, i < s.byteCount.toNat ∨ i < 2 → s'.payloadBuffer.read i = s.payloadBuffer.read i) ∧
    (let s := gathered 0x09 40 40 true [(2, 0x08)]
     let s' := gathered 0x0A 40 3 true []
     s.ignoreFrame = true ∧ s'.ignoreFrame = s.ignoreFrame ∧ s'.expectedLen = s.expectedLen) ∧
    (∀ n ∈ ([32, 33, 255] : List Byte),
      let s := gathered 0x09 n n false [(31, 0x08)]
      let s' : State := { s with now := 9 }
      31 < s.byteCount.toNat ∧ s.ignoreFrame = false ∧ s'.cycle = s.cycle ∧
      ∀ i < 32, s'.payloadBuffer.read i = s.payloadBuffer.read i) := by decide

theorem witness_ProcessGuarantees :
    (∃ t, exec .process pingGathered = .next t ∧ t.state.responding = true) ∧
    (∃ t, exec .process badGathered = .next t ∧ t.checksumErrorCount ≠ badGathered.checksumErrorCount) :=
  ⟨⟨_, rfl, by decide⟩, ⟨_, rfl, by decide⟩⟩

/-- V7, V7b, V8, V8b, V8c, V8d, and a length-2 frame from 0x09 with payload byte 0. -/
theorem witness_ShortFramesFollowTheLiteralRules :
    ∀ f ∈ ([(0x03, 1, []), (0x09, 1, [(0, 0x0A)]), (0x00, 2, []), (0x01, 2, [(1, 0x01)]), (0x02, 2, [(1, 0x02)]),
        (0x09, 2, [(1, 0x09)]), (0x09, 2, [(0, 0x07), (1, 0x0E)])] : List (Byte × Byte × Memory)),
      let s := gathered f.1 f.2.1 f.2.1 false f.2.2
      s.ignoreFrame = false ∧ s.byteCount = s.expectedLen ∧ xorAll s.verificationBuffer = 0x00 ∧
      (s.expectedLen = 0x01 ∧ s.payloadBuffer.read 1 = 0x00 ∨
       s.expectedLen = 0x02 ∧ s.payloadBuffer.read 0 = 0x00 ∨
       s.expectedLen = 0x02 ∧ s.payloadBuffer.read 0 ≠ 0x00) := by decide

/-- V20b and V20c: another sender, another byte in the last cell that counts. -/
theorem witness_OneCorruptedByteIsDetected :
    let s := pingGathered
    s.ignoreFrame = false ∧ s.byteCount.toNat ≤ 32 ∧ xorAll s.verificationBuffer = 0x00 ∧
    (let s' := gathered 0x0B 3 3 false [(2, 0x08)]
     s'.ignoreFrame = false ∧ s'.cfg = s.cfg ∧ s'.expectedLen = s.expectedLen ∧ s'.byteCount = s.byteCount ∧
     s'.senderAddr ≠ s.senderAddr ∧ SameBuffer s s') ∧
    (let s' := gathered 0x09 3 3 false [(2, 0x88)]
     s'.ignoreFrame = false ∧ s'.cfg = s.cfg ∧ s'.expectedLen = s.expectedLen ∧ s'.byteCount = s.byteCount ∧
     s'.senderAddr = s.senderAddr ∧ 2 < s.byteCount.toNat ∧
     s'.payloadBuffer.read 2 ≠ s.payloadBuffer.read 2 ∧
     ∀ a, a ≠ 2 → s'.payloadBuffer.read a = s.payloadBuffer.read a) := by
  refine ⟨by decide, by decide, by decide, ⟨by decide, rfl, rfl, rfl, by decide, fun _ => rfl⟩,
    by decide, rfl, rfl, rfl, rfl, by decide, by decide, fun a ha => ?_⟩
  show Memory.read [(2, 0x88)] a = Memory.read [(2, 0x08)] a
  rw [Memory.read_cons, Memory.read_cons, if_neg ha, if_neg ha]

theorem witness_CycleEmitsNothingOrOneReply :
    (∃ t, step (offered (replying .statusResponse 1 0) 0 none false) = .next t ∧ t.tx ≠ []) ∧
    (∃ t, step (offered State.reset 0 (some 0x02) false) = .next t ∧ t.tx = []) :=
  ⟨⟨_, rfl, by decide⟩, ⟨_, rfl, by decide⟩⟩

/-- VT3 and VT10: elapsed 16. -/
theorem witness_ExpiredGapAbortsTheFrame :
    let s := { timed .gatherData 100 116 with timeoutErrorCount := 0xFF }
    s.state ≠ .waitAddr ∧ s.cfg.timeoutMs.toNat < (s.now - s.lastActivityTimestamp).toNat ∧
    s.timeoutErrorCount = 0xFF := by decide

/-- VT7, VT2 and VT8: idle; elapsed exactly 15, also across the wrap. -/
theorem witness_UnexpiredGapChangesNothing :
    (timed .waitAddr 0 1000000).state = .waitAddr ∧
    (let s := timed .gatherData 100 115
     (s.now - s.lastActivityTimestamp).toNat ≤ s.cfg.timeoutMs.toNat) ∧
    (let s := timed .gatherData 0xFFFFFFFB 0x0000000A
     (s.now - s.lastActivityTimestamp).toNat ≤ s.cfg.timeoutMs.toNat) := by decide

theorem witness_BoundCorners :
    (let s := { timed .getSender 5 6 with cfg := { Config.reference with timeoutMs := 0 } }
     s.state ≠ .waitAddr ∧ s.cfg.timeoutMs = 0) ∧
    (let s := { timed .getSender 6 5 with cfg := { Config.reference with timeoutMs := 0xFFFFFFFF } }
     s.state ≠ .waitAddr ∧ s.cfg.timeoutMs = 0xFFFFFFFF) := by decide

theorem witness_StalledFrameIsAborted :
    ∀ p ∈ [Phase.getSender, .getLen, .gatherData],
      let s := offered (inPhase p) 16 none false
      (s.state = .getSender ∨ s.state = .getLen ∨ s.state = .gatherData) ∧ s.beginCycle.rxOffer = none ∧
      s.beginCycle.expired = true := by decide

/-- V17 and V18b, under both orders, with both sides of the address comparison. -/
theorem witness_ExpiredGapUnderBothOrders :
    (∀ b ∈ [(0x02 : Byte), 0x03],
      let s := offered (inPhase .getLen) 16 (some b) false
      s.beginCycle.expired = true ∧ s.state.receiving = true ∧ s.beginCycle.rxOffer = some b ∧
      s.cfg.cycleOrder = .framerFirst ∧
      (timeoutFirst s).beginCycle.expired = true ∧ (timeoutFirst s).cfg.cycleOrder = .timeoutFirst) ∧
    (∀ p ∈ [Phase.pingResponse, .statusResponse, .inputResponse],
      let s := offered (replying p 0 0) 16 none false
      s.beginCycle.expired = true ∧ s.state.responding = true ∧ s.cfg.cycleOrder = .framerFirst ∧
      (timeoutFirst s).beginCycle.expired = true ∧ (timeoutFirst s).cfg.cycleOrder = .timeoutFirst) := by decide

/-- V18 with a good frame and with a bad one, under both orders. -/
theorem witness_LateProcessingLosesTheFrame :
    (let s := offered pingGathered 16 none false
     s.state = .processData ∧ s.ignoreFrame = false ∧ s.beginCycle.expired = true ∧
     s.beginCycle.rxOffer = none ∧ xorAll s.beginCycle.verificationBuffer = 0x00 ∧ s.payloadBuffer.read 0 = 0x00 ∧
     (s.payloadBuffer.read 1).toNat ≤ 2) ∧
    (let s := offered badGathered 16 none false
     s.beginCycle.expired = true ∧ s.beginCycle.rxOffer = none ∧ xorAll s.beginCycle.verificationBuffer ≠ 0x00 ∧
     s.cfg.cycleOrder = .framerFirst ∧ (timeoutFirst s).cfg.cycleOrder = .timeoutFirst ∧
     (timeoutFirst s).beginCycle.expired = true ∧ xorAll (timeoutFirst s).beginCycle.verificationBuffer ≠ 0x00) := by decide

theorem witness_CycleOrdersAgreeWithoutTimeout :
    ∃ m, framerPhase (offered pingGathered 15 none false).beginCycle = .next m ∧
      (offered pingGathered 15 none false).beginCycle.expired = false ∧ m.expired = false :=
  ⟨_, rfl, by decide, by decide⟩

theorem witness_WatchdogCounterIsTheElapsedTime :
    ∃ m, (timed .getLen 100 115).elapsed = 15 ∧
      framerPhase (offered (timed .getLen 100 115) 116 (some 0x03) false).beginCycle = .next m ∧ m.rxTake = true :=
  ⟨_, rfl, rfl, rfl⟩

/-- Elapsed exactly 15, and the largest legal advance. -/
theorem witness_ElapsedTimeDoesNotWrap :
    let s := offered (timed .getLen 100 115) (115 + 0xFFFFFFF0) none false
    s.elapsed.toNat ≤ s.cfg.timeoutMs.toNat ∧ (subTs s.nextInput.now s.now).toNat < 2 ^ 32 - s.cfg.timeoutMs.toNat ∧
    (subTs s.nextInput.now s.now).toNat + 1 = 2 ^ 32 - s.cfg.timeoutMs.toNat := by decide

/-- One state for each of the five events. -/
theorem witness_EveryErrorIsTakenAlike :
    (∃ t, exec .process badGathered = .next t ∧ t.events = badGathered.events ++ [.checksumMismatch]) ∧
    (∃ t, exec .timeoutCheck (timed .getLen 0 16) = .next t ∧ t.events = [] ++ [.frameTimeout]) ∧
    (∃ t, exec (.unknown 0x00 0x03) pingGathered = .next t ∧ t.events = [] ++ [.unknownCommand]) ∧
    (∃ t, exec .process (gathered 0x09 3 3 true []) = .next t ∧ t.events = [] ++ [.foreignAddress]) ∧
    (∃ t, exec .process (gathered 0x09 0 0 true []) = .next t ∧ t.events = [] ++ [.malformedLength]) :=
  ⟨⟨_, rfl, rfl⟩, ⟨_, rfl, rfl⟩, ⟨_, rfl, rfl⟩, ⟨_, rfl, rfl⟩, ⟨_, rfl, rfl⟩⟩

theorem witness_ErrorsHaveTheirCauses :
    (∃ t, exec .process badGathered = .next t ∧ t.events ≠ badGathered.events) ∧
    (∃ t, exec .process (gathered 0x09 3 3 false [(1, 0x03), (2, 0x0B)]) = .next t ∧ t.events ≠ []) ∧
    (∃ t, exec (.unknown 0x01 0x00) pingGathered = .next t ∧ t.events ≠ []) ∧
    (∃ t, exec .process (gathered 0x09 32 32 true []) = .next t ∧ t.events = [.foreignAddress]) ∧
    (∃ t, exec .process (gathered 0x09 33 33 true []) = .next t ∧ t.events = [.malformedLength]) ∧
    (∃ t, exec .timeoutCheck (timed .getLen 0 16) = .next t ∧ t.events ≠ []) :=
  ⟨⟨_, rfl, by decide⟩, ⟨_, rfl, by decide⟩, ⟨_, rfl, by decide⟩, ⟨_, rfl, rfl⟩, ⟨_, rfl, rfl⟩,
    ⟨_, rfl, by decide⟩⟩

/-- Each register changed once by the operation that writes it, `state` by every kind of edge. -/
theorem witness_RegistersHaveTheirWriters :
    ((nextOf (exec (.rxAddr 0x02) State.reset)).map (·.state) = some .getSender ∧
      (nextOf (exec (.rxData 0x08) { inPhase .gatherData with expectedLen := 1 })).map (·.state) =
        some .processData ∧
      (nextOf (exec .process pingGathered)).map (·.state) = some .pingResponse ∧
      (nextOf (exec .process badGathered)).map (·.state) = some .waitAddr ∧
      (nextOf (exec .rspInput (inPhase .inputResponse))).map (·.state) = some .waitAddr ∧
      (nextOf (exec .timeoutCheck (timed .pingResponse 0 16))).map (·.state) = some .waitAddr) ∧
    (∃ t, exec (.rxSender 0x09) State.reset = .next t ∧ t.senderAddr ≠ 0x00) ∧
    (∃ t, exec (.rxLen 0x21) { State.reset with now := 7 } = .next t ∧ t.expectedLen ≠ 0x00 ∧
      t.ignoreFrame ≠ false ∧ t.lastActivityTimestamp ≠ 0) ∧
    (∃ t, exec (.rxData 0x08) State.reset = .next t ∧ t.byteCount ≠ 0 ∧ t.payloadBuffer.read 0 ≠ 0x00) ∧
    (∃ t, exec (.rxAddr 0x05) State.reset = .next t ∧ t.ignoreFrame ≠ false) ∧
    (∃ t, exec .process badGathered = .next t ∧ t.checksumErrorCount ≠ 0) ∧
    (∃ t, exec .timeoutCheck (timed .getLen 0 16) = .next t ∧ t.timeoutErrorCount ≠ 0) :=
  ⟨by decide, ⟨_, rfl, by decide⟩, ⟨_, rfl, by decide⟩, ⟨_, rfl, by decide⟩, ⟨_, rfl, by decide⟩,
    ⟨_, rfl, by decide⟩, ⟨_, rfl, by decide⟩⟩

/-- An edge forward, the end of a frame, staying, and the abort edge. -/
theorem witness_PhasesFollowTheirGraph :
    (∃ t, framerPhase { State.reset with rxSource := [0x02] } = .next t ∧ t.state ≠ .waitAddr) ∧
    (∃ t, framerPhase badGathered = .next t ∧ t.state = .waitAddr) ∧
    (∃ t, framerPhase (inPhase .getLen) = .next t ∧ t.state = .getLen) ∧
    (∃ t, monitorPhase (timed .getLen 0 16) = .next t ∧ t.state = .waitAddr) :=
  ⟨⟨_, rfl, by decide⟩, ⟨_, rfl, rfl⟩, ⟨_, rfl, rfl⟩, ⟨_, rfl, rfl⟩⟩

theorem witness_ConfigurationNeverChanges :
    ∃ t, step (offered (replying .pingResponse 0 0) 0 none false) = .next t := ⟨_, rfl⟩

theorem witness_CycleBounds :
    (∃ t, step (offered State.reset 7 (some 0x02) false) = .next t ∧ t.rxTake = true) ∧
    (∃ t, step (offered badGathered 0 (some 0x02) false) = .next t ∧ t.rxTake = false ∧ t.events ≠ [] ∧
      (offered badGathered 0 (some 0x02) false).cfg.cycleOrder = .framerFirst) :=
  ⟨⟨_, rfl, rfl⟩, ⟨_, rfl, rfl, by decide, rfl⟩⟩

theorem inv_offered {s : State} (h : Inv s) (now : TimeStamp) (b : Option Byte) (pin : Bool) :
    Inv (offered s now b pin) :=
  ⟨h.bufferWf, fun hs => ⟨hs, (h.idle hs).sender, (h.idle hs).len, (h.idle hs).count, (h.idle hs).ignore,
    (h.idle hs).buffer⟩, h.header, h.gathering, h.gathered, h.addressed, h.responding, h.unwritten⟩

theorem reset_inv : Inv State.reset where
  bufferWf := rfl
  idle _ := resetWith_cleared _
  header h := by rcases h with h | h <;> cases h
  gathering h := by cases h
  gathered h := by cases h
  addressed h := by rcases h with h | h <;> cases h
  responding h := by cases h
  unwritten h := by rcases h with h | ⟨h, _⟩ <;> cases h

theorem pingGathered_inv : Inv pingGathered where
  bufferWf := by decide
  idle h := by cases h
  header h := by rcases h with h | h <;> cases h
  gathering h := by cases h
  gathered _ := rfl
  addressed _ _ := by decide
  responding h := by cases h
  unwritten _ a ha := by
    change 3 ≤ a at ha
    show Memory.read [(2, 0x08)] a = 0x00
    rw [Memory.read_cons, if_neg (by omega)]
    rfl

/-- From reset and from a gathered frame. -/
theorem witness_StepKeepsTheInvariant :
    (Inv (offered State.reset 7 (some 0x02) false) ∧
      ∃ t, step (offered State.reset 7 (some 0x02) false) = .next t) ∧
    (Inv (offered pingGathered 1 none false) ∧ ∃ t, step (offered pingGathered 1 none false) = .next t) :=
  ⟨⟨inv_offered reset_inv _ _ _, _, rfl⟩, inv_offered pingGathered_inv _ _ _, _, rfl⟩

theorem witness_ProcessAlwaysCompletes :
    Inv pingGathered ∧ pingGathered.state = .processData ∧ pingGathered.ignoreFrame = false :=
  ⟨pingGathered_inv, rfl, rfl⟩

theorem witness_ExpiredSilentCycleEndsIdle :
    (offered pingGathered 16 none false).beginCycle.expired = true ∧
    (offered pingGathered 16 none false).beginCycle.rxOffer = none := by decide

/-- V15 -/
theorem witness_IdleWaitsForEver :
    (offered State.reset 100000 none false).state = .waitAddr ∧
    (offered State.reset 100000 none false).beginCycle.rxOffer = none := by decide

theorem witness_PortsShowTheCycle :
    (∃ t, clockEdge false true (offered (replying .pingResponse 0 0) 0 none false) = .next t ∧ t.tx ≠ []) ∧
    (∃ t, clockEdge false true (offered State.reset 7 (some 0x02) false) = .next t ∧ t.tx = [] ∧
      (offered State.reset 7 (some 0x02) false).cfg.cycleOrder = .framerFirst) :=
  ⟨⟨_, rfl, by decide⟩, ⟨_, rfl, rfl, rfl⟩⟩

/-- The shortest and the longest payload. -/
theorem witness_FramesAreSealed :
    ([] : List Byte).length ≤ 254 ∧ (List.replicate 254 (0xFF : Byte)).length ≤ 254 := by
  rw [List.length_replicate]
  decide

theorem inv_idle_with {rx : List Byte} {inputs : List CycleInput} :
    Inv { State.reset with rxSource := rx, script := inputs } :=
  ⟨rfl, fun _ => ⟨rfl, rfl, rfl, rfl, rfl, fun _ => rfl⟩, reset_inv.header, reset_inv.gathering,
    reset_inv.gathered, reset_inv.addressed, reset_inv.responding, reset_inv.unwritten⟩

/-- V6, and a frame of the largest length. -/
theorem witness_ForeignFrameIsConsumedWhole :
    (let s : State := { State.reset with rxSource := [0x05, 0x09, 0x03, 0x00, 0x00, 0x0F], script := [] }
     Inv s ∧ s.state = .waitAddr ∧ s.cfg.cycleOrder = .framerFirst ∧ (0x05 : Byte) ≠ s.cfg.ownAddr ∧
     (0x03 : Byte) ≠ 0x00 ∧ [(0x00 : Byte), 0x00, 0x0F].length = (0x03 : Byte).toNat ∧
     s.rxSource = 0x05 :: 0x09 :: 0x03 :: [0x00, 0x00, 0x0F] ++ []) ∧
    (List.replicate 255 (0x02 : Byte)).length = (0xFF : Byte).toNat := by
  refine ⟨⟨inv_idle_with, by decide, by decide, by decide, by decide, by decide, by decide⟩, ?_⟩
  rw [List.length_replicate]
  rfl

/-- V28: every gap exactly 15. -/
theorem witness_GoodRequestIsAnswered :
    let s : State := { State.reset with
      rxSource := frameBytes 0x02 0x09 (0x00 :: 0x00 :: [])
      script := scriptOf false [(0, none), (15, none), (30, none), (45, none), (60, none), (75, none), (90, none),
        (90, none)] }
    let ins := scriptOf false [(15, none), (30, none), (45, none), (60, none), (75, none)]
    Inv s ∧ s.state = .waitAddr ∧ ([] : List Byte).length ≤ 29 ∧ (0x00 : Byte).toNat ≤ 2 ∧
    s.rxSource = frameBytes s.cfg.ownAddr 0x09 (0x00 :: 0x00 :: []) ++ [] ∧
    s.script = ⟨0, [], false⟩ :: ins ++ ⟨90, [], false⟩ :: ⟨90, [], false⟩ :: [] ∧
    ins.length = ([] : List Byte).length + 5 ∧ Timely s.cfg.timeoutMs 0 ins ∧
    (subTs 90 (lastTime 0 ins)).toNat ≤ s.cfg.timeoutMs.toNat :=
  ⟨inv_idle_with, by decide, by decide, by decide, by decide, by decide, by decide,
    ⟨by decide, by decide, by decide, by decide, by decide, trivial⟩, by decide⟩

/-- The largest request: 29 further payload bytes, all cycles at one time, and the last command. -/
theorem witness_GoodRequestIsAnswered_longest :
    (List.replicate 29 (0x00 : Byte)).length ≤ 29 ∧ (0x02 : Byte).toNat ≤ 2 ∧
    Timely 15 0 (List.replicate 34 (⟨0, [], true⟩ : CycleInput)) := by
  refine ⟨by rw [List.length_replicate], by decide, ?_⟩
  simp [Timely, subTs, List.replicate]

end Sys2Proof.Tests
end

/-! ## The state family: what every cycle keeps, which operation writes which register, the graph of the phases -/

namespace Sys2Proof.Machine

open Sys2Proof

/-! ### One step lemma for all invariants -/

/-- Everything TIMEOUT_CHECK can do (43_timeout_monitor R180, R181). -/
theorem monitorPhase_cases {s t : State} (h : monitorPhase s = .next t) :
    (s.expired = true ∧ t = s.countTimeoutError.raise .frameTimeout) ∨ (s.expired = false ∧ t = s) := by
  cases he : s.expired
  · rw [monitor_quiet he] at h
    cases h
    exact .inr ⟨rfl, rfl⟩
  · rw [monitor_fires he] at h
    cases h
    exact .inl ⟨rfl, rfl⟩

/-- What both phases of a cycle keep, a step keeps from the sampled state on, in either cycle order. -/
theorem step_keeps (P : State → Prop) (framer : ∀ s t, framerPhase s = .next t → P s → P t)
    (monitor : ∀ s t, monitorPhase s = .next t → P s → P t) {s t : State} (h : step s = .next t)
    (h0 : P s.beginCycle) : P t := by
  cases ho : s.cfg.cycleOrder
  · rw [step_framerFirst ho] at h
    obtain ⟨m, hf, hm⟩ := andThen_eq_next h
    exact monitor m t hm (framer _ m hf h0)
  · rw [step_timeoutFirst ho] at h
    obtain ⟨m, hm, hf⟩ := andThen_eq_next h
    exact framer m t hf (monitor _ m hm h0)

/-- The ends of PROCESS (41_validator_dispatcher R139): the frame is dropped with an event, is dropped and counted as a
checksum error, or is good and selects a response phase. -/
theorem execProcess_drops_or_selects {s t : State} (h : execProcess s = .next t) :
    (∃ e, t = s.raise e) ∨
    (s.ignoreFrame = false ∧ xorAll s.verificationBuffer ≠ 0x00 ∧
      t = s.countChecksumError.raise .checksumMismatch) ∨
    (∃ p, p.responding = true ∧ t = s.goto p ∧ s.ignoreFrame = false ∧ xorAll s.verificationBuffer = 0x00 ∧
      s.payloadBuffer.read 0 = 0x00) := by
  obtain ⟨-, -, ht⟩ | ⟨-, -, ht⟩ | hbad | ⟨hi, hx, ⟨h0, -, ht⟩ | ⟨h0, -, ht⟩ | ⟨h0, -, ht⟩ | ⟨-, ht⟩⟩ :=
    execProcess_next h
  · exact .inl ⟨_, ht⟩
  · exact .inl ⟨_, ht⟩
  · exact .inr (.inl hbad)
  · exact .inr (.inr ⟨.pingResponse, rfl, ht, hi, hx, h0⟩)
  · exact .inr (.inr ⟨.statusResponse, rfl, ht, hi, hx, h0⟩)
  · exact .inr (.inr ⟨.inputResponse, rfl, ht, hi, hx, h0⟩)
  · exact .inl ⟨_, ht⟩

theorem responding_iff {p : Phase} :
    p.responding = true ↔ p = .pingResponse ∨ p = .statusResponse ∨ p = .inputResponse := by
  cases p <;> simp [Phase.responding]

/-! ### The invariant, phase by phase

Each item of 10_state R38 speaks of some phases only, so in a state of a known phase the invariant is the items of that
phase. -/

theorem Inv.of_cleared {t : State} (hw : t.payloadBuffer.wf = true) (h : SessionCleared t) : Inv t where
  bufferWf := hw
  idle _ := h
  header hs := by simp [h.state] at hs
  gathering hs := by simp [h.state] at hs
  gathered hs := by simp [h.state] at hs
  addressed hs := by simp [h.state] at hs
  responding hs := by simp [h.state, Phase.responding] at hs
  unwritten hs := by simp [h.state] at hs

theorem Inv.of_header {t : State} (hs : t.state = .getSender ∨ t.state = .getLen)
    (hw : t.payloadBuffer.wf = true) (hc : t.byteCount = 0x00) (hb : ∀ a, t.payloadBuffer.read a = 0x00) :
    Inv t where
  bufferWf := hw
  idle h := by simp [h] at hs
  header _ := ⟨hc, hb⟩
  gathering h := by simp [h] at hs
  gathered h := by simp [h] at hs
  addressed h := by rcases h with h | h <;> simp [h] at hs
  responding h := by rcases hs with hs | hs <;> simp [hs, Phase.responding] at h
  unwritten h := by rcases h with h | ⟨h, -⟩ <;> simp [h] at hs

theorem Inv.of_gatherData {t : State} (hs : t.state = .gatherData) (hw : t.payloadBuffer.wf = true)
    (hlt : t.expectedLen ≠ 0x00 → t.byteCount.toNat < t.expectedLen.toNat)
    (hlen : t.ignoreFrame = false → 1 ≤ t.expectedLen.toNat ∧ t.expectedLen.toNat ≤ bufCap)
    (hz : ∀ a, t.byteCount.toNat ≤ a → t.payloadBuffer.read a = 0x00) : Inv t where
  bufferWf := hw
  idle h := by simp [hs] at h
  header h := by simp [hs] at h
  gathering _ := hlt
  gathered h := by simp [hs] at h
  addressed _ := hlen
  responding h := by simp [hs, Phase.responding] at h
  unwritten _ := hz

theorem Inv.of_processData {t : State} (hs : t.state = .processData) (hw : t.payloadBuffer.wf = true)
    (hcount : t.byteCount = t.expectedLen)
    (hlen : t.ignoreFrame = false → 1 ≤ t.expectedLen.toNat ∧ t.expectedLen.toNat ≤ bufCap)
    (hz : t.expectedLen ≠ 0x00 → ∀ a, t.byteCount.toNat ≤ a → t.payloadBuffer.read a = 0x00) : Inv t where
  bufferWf := hw
  idle h := by simp [hs] at h
  header h := by simp [hs] at h
  gathering h := by simp [hs] at h
  gathered _ := hcount
  addressed _ := hlen
  responding h := by simp [hs, Phase.responding] at h
  unwritten h := hz (by simpa [hs] using h)

theorem Inv.of_responding {t : State} (hs : t.state.responding = true) (hw : t.payloadBuffer.wf = true)
    (hitem : t.ignoreFrame = false ∧ t.byteCount = t.expectedLen ∧ 1 ≤ t.expectedLen.toNat ∧
      t.expectedLen.toNat ≤ bufCap ∧ t.payloadBuffer.read 0 = 0x00 ∧ xorAll t.verificationBuffer = 0x00) :
    Inv t where
  bufferWf := hw
  idle h := by simp [h, Phase.responding] at hs
  header h := by rcases h with h | h <;> simp [h, Phase.responding] at hs
  gathering h := by simp [h, Phase.responding] at hs
  gathered h := by simp [h, Phase.responding] at hs
  addressed h := by rcases h with h | h <;> simp [h, Phase.responding] at hs
  responding _ := hitem
  unwritten h := by rcases h with h | ⟨h, -⟩ <;> simp [h, Phase.responding] at hs

theorem raise_inv (s : State) (e : Event) : Inv (s.raise e) := .of_cleared rfl (raise_cleared s e)

theorem resetSession_inv (s : State) : Inv s.resetSession := .of_cleared rfl (resetSession_cleared s)

/-! ### Every operation of a cycle keeps the invariant -/

/-- Sampling keeps the invariant: the checksum of a response phase does not depend on the cycle, because its frame fits
the buffer. -/
theorem beginCycle_keeps_inv {s : State} (h : Inv s) : Inv s.beginCycle where
  bufferWf := h.bufferWf
  idle hs :=
    have hc := h.idle hs
    ⟨hc.state, hc.sender, hc.len, hc.count, hc.ignore, hc.buffer⟩
  header := h.header
  gathering := h.gathering
  gathered := h.gathered
  addressed := h.addressed
  responding hs := by
    obtain ⟨hi, hcount, hlo, hhi, h0, hx⟩ := h.responding hs
    refine ⟨hi, hcount, hlo, hhi, h0, ?_⟩
    rwa [verificationBuffer_begin (by rwa [hcount])]
  unwritten := h.unwritten

theorem rxAddr_keeps_inv {s : State} (b : Byte) (h : Inv s) (hs : s.state = .waitAddr) :
    Inv { s.receive with ignoreFrame := foreignAddr s.cfg.ownAddr b, state := .getSender } :=
  have hc := h.idle hs
  .of_header (.inl rfl) h.bufferWf hc.count hc.buffer

theorem rxSender_keeps_inv {s : State} (b : Byte) (h : Inv s) (hs : s.state = .getSender) :
    Inv { s.receive with senderAddr := b, state := .getLen } :=
  have ⟨hcount, hbuffer⟩ := h.header (.inl hs)
  .of_header (.inr rfl) h.bufferWf hcount hbuffer

/-- A length that does not set the flag is between 1 and 32 (40_framer R123). -/
theorem length_bounds_of_not_malformed {len : Byte} (h : malformedLen len = false) :
    1 ≤ len.toNat ∧ len.toNat ≤ bufCap := by
  have hne : ¬ (len = 0x00 ∨ bufCap < len.toNat) := by rw [← malformedLen_iff, h]; exact Bool.false_ne_true
  rw [not_or, ← BitVec.toNat_inj] at hne
  exact ⟨Nat.pos_of_ne_zero hne.1, Nat.not_lt.mp hne.2⟩

theorem rxLen_keeps_inv {s : State} (b : Byte) (h : Inv s) (hs : s.state = .getLen) :
    Inv { s.receive with
      expectedLen := b, ignoreFrame := s.ignoreFrame || malformedLen b, state := .gatherData } := by
  obtain ⟨hcount, hbuffer⟩ := h.header (.inr hs)
  refine .of_gatherData rfl h.bufferWf (fun hb => ?_) (fun hi => ?_) fun a _ => hbuffer a
  · rw [State.receive_byteCount, hcount]
    exact Nat.pos_of_ne_zero fun h0 => hb (BitVec.eq_of_toNat_eq h0)
  · exact length_bounds_of_not_malformed (Bool.or_eq_false_iff.mp hi).2

/-- While data is gathered the count wraps only when a frame of length 0 ends (40_framer R124). -/
theorem gathering_count_lt {s : State} (h : Inv s) (hs : s.state = .gatherData)
    (hne : s.expectedLen ≠ 0x00 ∨ add8 s.byteCount ≠ s.expectedLen) : s.byteCount.toNat < 255 := by
  by_cases hlen : s.expectedLen = 0x00
  · have hwrap : add8 s.byteCount ≠ 0x00 := by simpa [hlen] using hne
    rw [add8] at hwrap
    bv_omega
  · have := h.gathering hs hlen
    have := s.expectedLen.isLt
    omega

/-- The cells above the new count are still zero after the byte is stored below it. -/
theorem store_keeps_unwritten {s : State} {b : Byte} (h : Inv s) (hs : s.state = .gatherData)
    (hc : s.byteCount.toNat < 255) (a : Nat) (ha : (add8 s.byteCount).toNat ≤ a) :
    (s.payloadBuffer.store s.byteCount.toNat b).read a = 0x00 := by
  rw [add8_toNat hc] at ha
  rw [Memory.read_store_other (by omega)]
  exact h.unwritten (.inl hs) a (by omega)

theorem rxData_keeps_inv {s : State} (b : Byte) (h : Inv s) (hs : s.state = .gatherData) :
    Inv { s.receive with
      payloadBuffer := s.payloadBuffer.store s.byteCount.toNat b
      byteCount := add8 s.byteCount
      state := if add8 s.byteCount = s.expectedLen then .processData else .gatherData } := by
  have hw : (s.payloadBuffer.store s.byteCount.toNat b).wf = true := Memory.store_wf h.bufferWf
  have hlen := h.addressed (.inl hs)
  split
  next hend =>
    exact .of_processData rfl hw hend hlen fun hne =>
      store_keeps_unwritten h hs (gathering_count_lt h hs (.inl hne))
  next hmore =>
    have hc := gathering_count_lt h hs (.inr hmore)
    refine .of_gatherData rfl hw (fun hne => ?_) hlen (store_keeps_unwritten h hs hc)
    have hlt := h.gathering hs hne
    have hne' : (add8 s.byteCount).toNat ≠ s.expectedLen.toNat := fun he => hmore (BitVec.eq_of_toNat_eq he)
    show (add8 s.byteCount).toNat < s.expectedLen.toNat
    rw [add8_toNat hc] at hne' ⊢
    omega

theorem process_keeps_inv {s t : State} (h : Inv s) (hs : s.state = .processData)
    (ht : execProcess s = .next t) : Inv t := by
  obtain ⟨e, rfl⟩ | ⟨-, -, rfl⟩ | ⟨p, hp, rfl, hi, hx, h0⟩ := execProcess_drops_or_selects ht
  · exact raise_inv s e
  · exact raise_inv _ _
  · obtain ⟨hlo, hhi⟩ := h.addressed (.inr hs) hi
    exact .of_responding hp h.bufferWf ⟨hi, h.gathered hs, hlo, hhi, h0, hx⟩

theorem framerPhase_keeps_inv (s t : State) (ht : framerPhase s = .next t) (h : Inv s) : Inv t := by
  obtain ⟨b, hs, -, rfl⟩ | ⟨b, hs, -, rfl⟩ | ⟨b, hs, -, rfl⟩ | ⟨b, hs, -, rfl⟩ | ⟨-, -, rfl⟩ | ⟨hs, hp⟩ |
    ⟨-, rfl⟩ | ⟨-, rfl⟩ | ⟨-, rfl⟩ := framerPhase_cases ht
  · exact rxAddr_keeps_inv b h hs
  · exact rxSender_keeps_inv b h hs
  · exact rxLen_keeps_inv b h hs
  · exact rxData_keeps_inv b h hs
  · exact h
  · exact process_keeps_inv h hs hp
  · exact resetSession_inv _
  · exact resetSession_inv _
  · exact resetSession_inv _

theorem monitorPhase_keeps_inv (s t : State) (ht : monitorPhase s = .next t) (h : Inv s) : Inv t := by
  obtain ⟨-, rfl⟩ | ⟨-, rfl⟩ := monitorPhase_cases ht
  · exact raise_inv _ _
  · exact h

/-- Settles O47: both phases and the sampling keep the invariant. -/
theorem stepKeepsTheInvariant : Obligations.StepKeepsTheInvariant := fun _ _ h ht =>
  step_keeps Inv framerPhase_keeps_inv monitorPhase_keeps_inv ht (beginCycle_keeps_inv h)

/-- Settles O46: the reset session is clear and the buffer lists nothing. -/
theorem resetMeetsTheInvariant : Obligations.ResetMeetsTheInvariant := fun cfg =>
  .of_cleared rfl (resetWith_cleared cfg)

/-- Settles O45: the reset session is clear, the other registers are read off. -/
theorem resetStateIsAsStated : Obligations.ResetStateIsAsStated := fun cfg =>
  ⟨resetWith_cleared cfg, rfl, rfl, rfl, rfl, rfl, rfl, rfl⟩

/-! ### Which operation writes which register (10_state R21 to R32) -/

/-- The operations that end a session, each under its condition (10_state R21, R35). -/
def EndsSession (i : Instr) (s : State) : Prop :=
  i = .process ∨ (∃ p0 p1, i = .unknown p0 p1) ∨ i = .rspPing ∨ i = .rspStatus ∨ i = .rspInput ∨
    (i = .timeoutCheck ∧ s.state ≠ .waitAddr ∧ s.expired = true)

/-- The edges of the phase register and the operations that take them (10_state R21). -/
def StateWriters (i : Instr) (s t : State) : Prop :=
  (∃ b, i = .rxAddr b ∧ t.state = .getSender) ∨ (∃ b, i = .rxSender b ∧ t.state = .getLen) ∨
  (∃ b, i = .rxLen b ∧ t.state = .gatherData) ∨
  (∃ b, i = .rxData b ∧ t.state = .processData ∧ t.byteCount = t.expectedLen) ∨
  ((i = .process ∨ i = .ping) ∧ t.state = .pingResponse) ∨
  ((i = .process ∨ i = .status) ∧ t.state = .statusResponse) ∨
  ((i = .process ∨ i = .input) ∧ t.state = .inputResponse) ∨
  (SessionCleared t ∧ EndsSession i s)

/-- The writers of every register: what `Obligations.RegistersHaveTheirWriters` says of one run of `i` from `s` to `t`,
one field a register. -/
structure RegisterWriters (i : Instr) (s t : State) : Prop where
  state : t.state ≠ s.state → StateWriters i s t
  sender : t.senderAddr ≠ s.senderAddr → (∃ b, i = .rxSender b ∧ t.senderAddr = b) ∨ SessionCleared t
  len : t.expectedLen ≠ s.expectedLen → (∃ b, i = .rxLen b ∧ t.expectedLen = b) ∨ SessionCleared t
  count : t.byteCount ≠ s.byteCount → (∃ b, i = .rxData b) ∧ t.byteCount = s.byteCount + 1 ∨ SessionCleared t
  ignore : t.ignoreFrame ≠ s.ignoreFrame →
    (∃ b, i = .rxAddr b) ∨ (∃ b, i = .rxLen b ∧ t.ignoreFrame = true) ∨ SessionCleared t
  buffer : ∀ a, t.payloadBuffer.read a ≠ s.payloadBuffer.read a →
    (∃ b, i = .rxData b ∧ a = s.byteCount.toNat ∧ a < 32) ∨ SessionCleared t
  timestamp : t.lastActivityTimestamp ≠ s.lastActivityTimestamp →
    (∃ b, i = .rxAddr b ∨ i = .rxSender b ∨ i = .rxLen b ∨ i = .rxData b) ∧ t.lastActivityTimestamp = s.now
  checksum : t.checksumErrorCount ≠ s.checksumErrorCount → i = .process ∧
    t.checksumErrorCount = s.checksumErrorCount + 1 ∧ s.ignoreFrame = false ∧ xorAll s.verificationBuffer ≠ 0x00
  timeout : t.timeoutErrorCount ≠ s.timeoutErrorCount → i = .timeoutCheck ∧
    t.timeoutErrorCount = s.timeoutErrorCount + 1 ∧ s.expired = true
  inputs : SameInputs s t

section
variable {i : Instr} {s t : State}

/-- An operation that writes the phase register and the sink at most. -/
theorem RegisterWriters.of_same_registers (hstate : t.state ≠ s.state → StateWriters i s t)
    (hframe : SameFrameRegisters s t) (hbuffer : SameBuffer s t) (hcounters : SameCounters s t)
    (htime : t.lastActivityTimestamp = s.lastActivityTimestamp) (hinputs : SameInputs s t) :
    RegisterWriters i s t where
  state := hstate
  sender h := absurd hframe.sender h
  len h := absurd hframe.len h
  count h := absurd hframe.count h
  ignore h := absurd hframe.ignore h
  buffer a h := absurd (hbuffer a) h
  timestamp h := absurd htime h
  checksum h := absurd hcounters.checksum h
  timeout h := absurd hcounters.timeout h
  inputs := hinputs

theorem RegisterWriters.of_same : RegisterWriters i s s :=
  .of_same_registers (absurd rfl) ⟨rfl, rfl, rfl, rfl⟩ (fun _ => rfl) ⟨rfl, rfl⟩ rfl ⟨rfl, rfl, rfl, rfl, rfl⟩

theorem RegisterWriters.of_emit (f : List Byte) : RegisterWriters i s (s.emit f) :=
  .of_same_registers (absurd rfl) ⟨rfl, rfl, rfl, rfl⟩ (fun _ => rfl) ⟨rfl, rfl⟩ rfl ⟨rfl, rfl, rfl, rfl, rfl⟩

theorem RegisterWriters.of_goto {p : Phase} (h : StateWriters i s (s.goto p)) : RegisterWriters i s (s.goto p) :=
  .of_same_registers (fun _ => h) ⟨rfl, rfl, rfl, rfl⟩ (fun _ => rfl) ⟨rfl, rfl⟩ rfl ⟨rfl, rfl, rfl, rfl, rfl⟩

/-- An operation that ends a session writes no register outside the session but the counter of its error. -/
theorem RegisterWriters.of_cleared (hc : SessionCleared t) (hi : EndsSession i s)
    (htime : t.lastActivityTimestamp = s.lastActivityTimestamp) (hinputs : SameInputs s t)
    (hchecksum : t.checksumErrorCount ≠ s.checksumErrorCount → i = .process ∧
      t.checksumErrorCount = s.checksumErrorCount + 1 ∧ s.ignoreFrame = false ∧
      xorAll s.verificationBuffer ≠ 0x00)
    (htimeout : t.timeoutErrorCount ≠ s.timeoutErrorCount → i = .timeoutCheck ∧
      t.timeoutErrorCount = s.timeoutErrorCount + 1 ∧ s.expired = true) : RegisterWriters i s t where
  state _ := .inr (.inr (.inr (.inr (.inr (.inr (.inr ⟨hc, hi⟩))))))
  sender _ := .inr hc
  len _ := .inr hc
  count _ := .inr hc
  ignore _ := .inr (.inr hc)
  buffer _ _ := .inr hc
  timestamp h := absurd htime h
  checksum := hchecksum
  timeout := htimeout
  inputs := hinputs

theorem RegisterWriters.of_raise (e : Event) (hi : EndsSession i s) : RegisterWriters i s (s.raise e) :=
  .of_cleared (raise_cleared s e) hi rfl ⟨rfl, rfl, rfl, rfl, rfl⟩ (absurd rfl) (absurd rfl)

theorem RegisterWriters.of_reply (f : List Byte) (hi : EndsSession i s) :
    RegisterWriters i s (s.emit f).resetSession :=
  .of_cleared (resetSession_cleared _) hi rfl ⟨rfl, rfl, rfl, rfl, rfl⟩ (absurd rfl) (absurd rfl)

end

theorem rxAddr_writers {b : Byte} {s t : State} (h : execRxAddr b s = .next t) :
    RegisterWriters (.rxAddr b) s t := by
  cases h
  exact {
    state := fun _ => .inl ⟨b, rfl, rfl⟩
    sender := absurd rfl
    len := absurd rfl
    count := absurd rfl
    ignore := fun _ => .inl ⟨b, rfl⟩
    buffer := fun _ => absurd rfl
    timestamp := fun _ => ⟨⟨b, .inl rfl⟩, rfl⟩
    checksum := absurd rfl
    timeout := absurd rfl
    inputs := ⟨rfl, rfl, rfl, rfl, rfl⟩ }

theorem rxSender_writers {b : Byte} {s t : State} (h : execRxSender b s = .next t) :
    RegisterWriters (.rxSender b) s t := by
  cases h
  exact {
    state := fun _ => .inr (.inl ⟨b, rfl, rfl⟩)
    sender := fun _ => .inl ⟨b, rfl, rfl⟩
    len := absurd rfl
    count := absurd rfl
    ignore := absurd rfl
    buffer := fun _ => absurd rfl
    timestamp := fun _ => ⟨⟨b, .inr (.inl rfl)⟩, rfl⟩
    checksum := absurd rfl
    timeout := absurd rfl
    inputs := ⟨rfl, rfl, rfl, rfl, rfl⟩ }

/-- RX_LEN changes the flag only by setting it (40_framer R123). -/
theorem rxLen_writers {b : Byte} {s t : State} (h : execRxLen b s = .next t) :
    RegisterWriters (.rxLen b) s t := by
  cases h
  exact {
    state := fun _ => .inr (.inr (.inl ⟨b, rfl, rfl⟩))
    sender := absurd rfl
    len := fun _ => .inl ⟨b, rfl, rfl⟩
    count := absurd rfl
    ignore := fun hne => .inr (.inl ⟨b, rfl, by
      cases hm : malformedLen b
      · simp [hm] at hne
      · simp⟩)
    buffer := fun _ => absurd rfl
    timestamp := fun _ => ⟨⟨b, .inr (.inr (.inl rfl))⟩, rfl⟩
    checksum := absurd rfl
    timeout := absurd rfl
    inputs := ⟨rfl, rfl, rfl, rfl, rfl⟩ }

/-- A store changes one cell of the 32 at most (20_memory R61). -/
theorem eq_and_lt_of_read_store_ne {m : Memory} {k a : Nat} {v : Byte}
    (h : (m.store k v).read a ≠ m.read a) : a = k ∧ a < bufCap := by
  have ha : a = k := by
    by_contra hne
    exact h (Memory.read_store_other hne)
  refine ⟨ha, ?_⟩
  by_contra hge
  exact h (by rw [Memory.store_discarded (by omega)])

theorem rxData_writers {b : Byte} {s t : State} (h : execRxData b s = .next t) :
    RegisterWriters (.rxData b) s t := by
  cases h
  exact {
    state := fun hne => .inr (.inr (.inr (.inl ⟨b, rfl, by
      by_cases hend : add8 s.byteCount = s.expectedLen
      · simp [hend]
      · simp [hend] at hne⟩)))
    sender := absurd rfl
    len := absurd rfl
    count := fun _ => .inl ⟨⟨b, rfl⟩, rfl⟩
    ignore := absurd rfl
    buffer := fun _ hne =>
      have ⟨hk, hlt⟩ := eq_and_lt_of_read_store_ne hne
      .inl ⟨b, rfl, hk, hlt⟩
    timestamp := fun _ => ⟨⟨b, .inr (.inr (.inr rfl))⟩, rfl⟩
    checksum := absurd rfl
    timeout := absurd rfl
    inputs := ⟨rfl, rfl, rfl, rfl, rfl⟩ }

theorem process_writers {s t : State} (h : execProcess s = .next t) : RegisterWriters .process s t := by
  obtain ⟨e, rfl⟩ | ⟨hi, hx, rfl⟩ | ⟨p, hp, rfl, -⟩ := execProcess_drops_or_selects h
  · exact .of_raise e (.inl rfl)
  · exact .of_cleared (raise_cleared _ _) (.inl rfl) rfl ⟨rfl, rfl, rfl, rfl, rfl⟩ (fun _ => ⟨rfl, rfl, hi, hx⟩)
      (absurd rfl)
  · obtain rfl | rfl | rfl := responding_iff.mp hp <;> exact .of_goto (by simp [StateWriters])

theorem timeoutCheck_writers {s t : State} (h : monitorPhase s = .next t) :
    RegisterWriters .timeoutCheck s t := by
  obtain ⟨he, rfl⟩ | ⟨-, rfl⟩ := monitorPhase_cases h
  · have hs : s.state ≠ .waitAddr := ((expired_iff s).mp he).1
    exact .of_cleared (raise_cleared _ _) (by simp [EndsSession, hs, he]) rfl ⟨rfl, rfl, rfl, rfl, rfl⟩
      (absurd rfl) fun _ => ⟨rfl, rfl, he⟩
  · exact .of_same

/-- Every instruction keeps to the writers of 10_state R21 to R30, one case an instruction. -/
theorem exec_registerWriters {i : Instr} {s t : State} (h : exec i s = .next t) : RegisterWriters i s t := by
  cases i with
  | rxAddr b => exact rxAddr_writers h
  | rxSender b => exact rxSender_writers h
  | rxLen b => exact rxLen_writers h
  | rxData b => exact rxData_writers h
  | noByte => cases h; exact .of_same
  | process => exact process_writers h
  | rspPing => cases h; exact .of_reply _ (by simp [EndsSession])
  | rspStatus => cases h; exact .of_reply _ (by simp [EndsSession])
  | rspInput => cases h; exact .of_reply _ (by simp [EndsSession])
  | timeoutCheck => exact timeoutCheck_writers h
  | ping => cases h; exact .of_goto (by simp [StateWriters])
  | status => cases h; exact .of_goto (by simp [StateWriters])
  | input => cases h; exact .of_goto (by simp [StateWriters])
  | unknown p0 p1 => cases h; exact .of_raise _ (by simp [EndsSession])
  | replyPing => cases h; exact .of_emit _
  | replyStatus => cases h; exact .of_emit _
  | replyInput => cases h; exact .of_emit _

/-- Settles O42: the writers of each register, over all instructions. -/
theorem registersHaveTheirWriters : Obligations.RegistersHaveTheirWriters := fun _ _ _ h =>
  have w := exec_registerWriters h
  ⟨w.state, w.sender, w.len, w.count, w.ignore, w.buffer, w.timestamp, w.checksum, w.timeout, w.inputs⟩

/-- Settles O43: the operations of both phases keep the configuration, and so does the sampling. -/
theorem configurationNeverChanges : Obligations.ConfigurationNeverChanges := fun s _ h =>
  step_keeps (fun u => u.cfg = s.cfg)
    (fun _ _ hf hu => (exec_registerWriters hf).inputs.cfg.trans hu)
    (fun _ _ hm hu => (timeoutCheck_writers hm).inputs.cfg.trans hu) h rfl

/-! ### What a cycle emits (42_responder R160 to R162) -/

/-- `f` is one whole reply to the sender of the frame in `s` (30_encoding R98, 42_responder R161, R162). -/
structure IsReply (s : State) (f : List Byte) : Prop where
  sealed : xorAll f = 0x00
  dest : f[0]? = some s.senderAddr
  src : f[1]? = some s.cfg.ownAddr
  len : (f[2]?).map (fun len => 3 + len.toNat) = some f.length
  size : f.length = 8 ∨ f.length = 6 ∨ f.length = 5

/-- A reply frame whose length byte counts the payload and the checksum byte is a whole reply, if it has one of the three
sizes. -/
theorem replyFrame_isReply (s : State) {len : Byte} {payload : List Byte} (hlen : len.toNat = payload.length + 1)
    (hsize : payload.length = 4 ∨ payload.length = 2 ∨ payload.length = 1) :
    IsReply s (s.replyFrame len payload) where
  sealed := replyFrame_xor s len payload
  dest := rfl
  src := rfl
  len := by
    rw [replyFrame_length]
    show some (3 + len.toNat) = _
    rw [hlen]
    congr 1
    omega
  size := by
    rw [replyFrame_length]
    omega

/-- The Framer phase emits nothing, or it is a response operation: one whole reply, then the reset. -/
theorem framerPhase_emits {s t : State} (h : framerPhase s = .next t) :
    (t.tx = s.tx ∧ t.txSink = s.txSink) ∨
    (s.state.responding = true ∧ ∃ f, IsReply s f ∧ t = (s.emit f).resetSession) := by
  obtain ⟨b, -, -, rfl⟩ | ⟨b, -, -, rfl⟩ | ⟨b, -, -, rfl⟩ | ⟨b, -, -, rfl⟩ | ⟨-, -, rfl⟩ | ⟨-, hp⟩ |
    ⟨hs, rfl⟩ | ⟨hs, rfl⟩ | ⟨hs, rfl⟩ := framerPhase_cases h
  · exact .inl ⟨rfl, rfl⟩
  · exact .inl ⟨rfl, rfl⟩
  · exact .inl ⟨rfl, rfl⟩
  · exact .inl ⟨rfl, rfl⟩
  · exact .inl ⟨rfl, rfl⟩
  · obtain ⟨e, rfl⟩ | ⟨-, -, rfl⟩ | ⟨p, -, rfl, -⟩ := execProcess_drops_or_selects hp <;> exact .inl ⟨rfl, rfl⟩
  · exact .inr ⟨responding_iff.mpr (.inl hs), _, replyFrame_isReply s rfl (.inl rfl), rfl⟩
  · exact .inr ⟨responding_iff.mpr (.inr (.inl hs)), _, replyFrame_isReply s rfl (.inr (.inl rfl)), rfl⟩
  · exact .inr ⟨responding_iff.mpr (.inr (.inr hs)), _, replyFrame_isReply s rfl (.inr (.inr rfl)), rfl⟩

/-- A cycle emits nothing, or it is one response operation: the reset leaves the monitor nothing to abort, and a monitor
that fires first leaves the Framer nothing to answer. -/
theorem step_emits {s t : State} (h : step s = .next t) :
    t.tx = [] ∨ (s.state.responding = true ∧ ∃ f, IsReply s.beginCycle f ∧
      t = (s.beginCycle.emit f).resetSession) := by
  obtain ⟨-, m, hf, hm⟩ | ⟨-, ⟨-, hf⟩ | ⟨-, hf⟩⟩ := step_cases h
  · obtain ⟨htx, -⟩ | ⟨hs, f, hr, rfl⟩ := framerPhase_emits hf
    · obtain ⟨-, rfl⟩ | ⟨-, rfl⟩ := hm <;> exact .inl htx
    · obtain ⟨he, -⟩ | ⟨-, rfl⟩ := hm
      · rw [expired_idle rfl] at he
        cases he
      · exact .inr ⟨hs, f, hr, rfl⟩
  · obtain ⟨htx, -⟩ | ⟨hs, -⟩ := framerPhase_emits hf
    · exact .inl htx
    · cases hs
  · obtain ⟨htx, -⟩ | ⟨hs, f, hr, rfl⟩ := framerPhase_emits hf
    · exact .inl htx
    · exact .inr ⟨hs, f, hr, rfl⟩

/-- The sink grows by what a cycle emits (44_polling_cycle R202). -/
theorem step_txSink {s t : State} (h : step s = .next t) : t.txSink = s.txSink ++ t.tx := by
  refine step_keeps (fun u => u.txSink = s.txSink ++ u.tx) ?_ ?_ h ?_
  · intro u v hf hu
    obtain ⟨htx, hsink⟩ | ⟨-, f, -, rfl⟩ := framerPhase_emits hf
    · rw [htx, hsink, hu]
    · simp [hu]
  · intro u v hm hu
    obtain ⟨-, rfl⟩ | ⟨-, rfl⟩ := monitorPhase_cases hm <;> exact hu
  · exact (List.append_nil _).symm

/-- Settles O29: a cycle emits nothing or is one response operation, which ends idle. -/
theorem cycleEmitsNothingOrOneReply : Obligations.CycleEmitsNothingOrOneReply := by
  intro s t h
  refine ⟨step_txSink h, ?_⟩
  obtain htx | ⟨hs, f, hr, rfl⟩ := step_emits h
  · exact .inl htx
  · exact .inr ⟨hs, hr.sealed, hr.dest, hr.src, hr.len, hr.size, rfl⟩

/-! ### The graph of the phases (10_state R21) -/

/-- Settles O58: each case of the Framer phase is an edge of the graph or stays, the monitor stays or aborts. -/
theorem phasesFollowTheirGraph : Obligations.PhasesFollowTheirGraph := by
  refine fun s t => ⟨fun h => ?_, fun h => ?_⟩
  · obtain ⟨b, hs, -, rfl⟩ | ⟨b, hs, -, rfl⟩ | ⟨b, hs, -, rfl⟩ | ⟨b, hs, -, rfl⟩ | ⟨hs, -, rfl⟩ | ⟨hs, hp⟩ |
      ⟨hs, rfl⟩ | ⟨hs, rfl⟩ | ⟨hs, rfl⟩ := framerPhase_cases h
    · simp [hs]
    · simp [hs]
    · simp [hs]
    · by_cases hend : add8 s.byteCount = s.expectedLen <;> simp [hs, hend, Phase.receiving]
    · exact .inl ⟨rfl, hs⟩
    · obtain ⟨e, rfl⟩ | ⟨-, -, rfl⟩ | ⟨p, hresp, rfl, -⟩ := execProcess_drops_or_selects hp
      · simp [hs]
      · simp [hs]
      · obtain rfl | rfl | rfl := responding_iff.mp hresp <;> simp [hs]
    · simp [hs]
    · simp [hs]
    · simp [hs]
  · obtain ⟨he, rfl⟩ | ⟨-, rfl⟩ := monitorPhase_cases h
    · exact .inr ⟨((expired_iff s).mp he).1, raise_cleared _ _⟩
    · exact .inl rfl

/-! ### Sampling, fetching and decoding -/

/-- Settles O7: the sampled state, field by field. -/
theorem cycleSamplesItsInputs : Obligations.CycleSamplesItsInputs := by
  intro s inp more h
  obtain rfl : s.nextInput = inp := nextInput_cons h
  obtain rfl : s.script.tail = more := by rw [h, List.tail_cons]
  exact ⟨rfl, rfl, rfl, rfl, rfl, rfl, rfl, rfl, rfl, rfl, rfl, rfl, ⟨rfl, rfl, rfl, rfl⟩, fun _ => rfl, ⟨rfl, rfl⟩⟩

/-- With a byte on offer the SEQ decoder reads an odd selection value, the byte, and what is behind it. -/
theorem fetchBytes_of_offer {s : State} {b : Byte} (h : s.rxOffer = some b) :
    s.fetchBytes = BitVec.ofNat 8 (s.state.code * 2 + 1) :: b :: s.rxSource.tail := by
  rw [State.fetchBytes, State.selection, h, ← List.eq_cons_of_mem_head? h]
  rfl

/-- Without a byte on offer it reads an even selection value and nothing else. -/
theorem fetchBytes_of_silence {s : State} (h : s.rxOffer = none) :
    s.fetchBytes = [BitVec.ofNat 8 (s.state.code * 2)] := by
  rw [State.fetchBytes, State.selection, h, List.head?_eq_none_iff.mp h]
  rfl

/-- In the four phases that poll nothing, bit 0 of the selection value selects nothing. -/
theorem decodeSeq_silent_phase (bit : Bool) (l : List Byte) {p : Phase} {i : Instr}
    (h : (p, i) ∈ [(Phase.processData, Instr.process), (.pingResponse, .rspPing), (.statusResponse, .rspStatus),
      (.inputResponse, .rspInput)]) :
    decode .seq (BitVec.ofNat 8 (p.code * 2 + if bit then 1 else 0) :: l) = .instr i l := by
  simp only [List.mem_cons, Prod.mk.injEq, List.not_mem_nil, or_false] at h
  obtain ⟨rfl, rfl⟩ | ⟨rfl, rfl⟩ | ⟨rfl, rfl⟩ | ⟨rfl, rfl⟩ := h <;> cases bit <;> rfl

/-- Settles O4: in each phase the selection value is a number, and the number decodes to the phase's operation. -/
theorem selectionFollowsThePhaseTable : Obligations.SelectionFollowsThePhaseTable := by
  refine fun s => ⟨fun b hb i hi => ?_, fun hs hr => ?_, fun i hi => decodeSeq_silent_phase _ _ hi⟩
  · rw [fetchBytes_of_offer hb]
    simp only [List.mem_cons, Prod.mk.injEq, List.not_mem_nil, or_false] at hi
    obtain ⟨hs, rfl⟩ | ⟨hs, rfl⟩ | ⟨hs, rfl⟩ | ⟨hs, rfl⟩ := hi <;> rw [hs] <;> rfl
  · rw [fetchBytes_of_silence hr]
    cases hp : s.state <;> simp [hp, Phase.receiving] at hs <;> rfl

/-- Settles O1: twenty closed words, decoded. -/
theorem writtenOutWordsDecode : Obligations.WrittenOutWordsDecode := by
  unfold Obligations.WrittenOutWordsDecode
  decide

end Sys2Proof.Machine

/-! ## The memory family: the byte source and the byte sink -/

namespace Sys2Proof.Machine

open Sys2Proof

/-! ### The byte source (20_memory R63 to R65) -/

/-- PROCESS reads the buffer and never the byte source (41_validator_dispatcher R139). -/
theorem execProcess_takes_no_byte {s t : State} (h : execProcess s = .next t) : NoByteTaken s t := by
  obtain ⟨e, rfl⟩ | ⟨-, -, rfl⟩ | ⟨p, -, rfl, -⟩ := execProcess_drops_or_selects h <;> exact ⟨rfl, rfl, rfl, rfl⟩

/-- What the Framer phase does to the byte source: a receiving phase takes the byte on offer, or stays as it is without
one, and the other phases do not poll. -/
theorem framerPhase_polls {s t : State} (h : framerPhase s = .next t) :
    (s.state.receiving = true ∧ (∃ b, s.rxOffer = some b) ∧ OneByteTaken s t) ∨
    (s.state.receiving = true ∧ s.rxOffer = none ∧ t = s) ∨
    (s.state.receiving = false ∧ NoByteTaken s t) := by
  obtain ⟨b, hs, hb, rfl⟩ | ⟨b, hs, hb, rfl⟩ | ⟨b, hs, hb, rfl⟩ | ⟨b, hs, hb, rfl⟩ | hsilent | ⟨hs, hp⟩ | ⟨hs, rfl⟩ |
    ⟨hs, rfl⟩ | ⟨hs, rfl⟩ := framerPhase_cases h
  · exact .inl ⟨by rw [hs]; rfl, ⟨b, hb⟩, rfl, rfl, rfl, rfl⟩
  · exact .inl ⟨by rw [hs]; rfl, ⟨b, hb⟩, rfl, rfl, rfl, rfl⟩
  · exact .inl ⟨by rw [hs]; rfl, ⟨b, hb⟩, rfl, rfl, rfl, rfl⟩
  · exact .inl ⟨by rw [hs]; rfl, ⟨b, hb⟩, rfl, rfl, rfl, rfl⟩
  · exact .inr (.inl hsilent)
  · exact .inr (.inr ⟨by rw [hs]; rfl, execProcess_takes_no_byte hp⟩)
  · exact .inr (.inr ⟨by rw [hs]; rfl, rfl, rfl, rfl, rfl⟩)
  · exact .inr (.inr ⟨by rw [hs]; rfl, rfl, rfl, rfl, rfl⟩)
  · exact .inr (.inr ⟨by rw [hs]; rfl, rfl, rfl, rfl, rfl⟩)

/-- A byte on offer that was taken stood at the front of the source. -/
theorem OneByteTaken.source_eq_cons {s t : State} {b : Byte} (h : OneByteTaken s t) (hb : s.rxOffer = some b) :
    s.rxSource = b :: t.rxSource := by
  rw [h.source]
  exact List.eq_cons_of_mem_head? hb

/-- Settles O13: the three clauses are the three things the Framer phase can do to the byte source. -/
theorem sourcePolledOnlyInReceivingPhases : Obligations.SourcePolledOnlyInReceivingPhases := by
  intro s t h
  obtain ⟨hs, ⟨b, hb⟩, htaken⟩ | ⟨hs, hb, rfl⟩ | ⟨hs, hkept⟩ := framerPhase_polls h
  · simp only [hs, hb]
    exact ⟨fun _ c hc => ⟨htaken.source_eq_cons (hb.trans hc), htaken⟩, nofun, nofun⟩
  · simp [hs, hb]
  · simpa [hs] using hkept

/-! ### The byte sink (20_memory R66, R67) -/

/-- Settles O28: the emission, field by field. -/
theorem emitAppendsToTheSink : Obligations.EmitAppendsToTheSink := fun s f =>
  ⟨s.emit_txSink f, s.emit_tx f, s.emit_state f, ⟨rfl, rfl, rfl, rfl⟩, fun _ => rfl, ⟨rfl, rfl⟩,
    ⟨rfl, rfl, rfl, rfl⟩, s.emit_events f, ⟨rfl, rfl, rfl, rfl, rfl⟩⟩

end Sys2Proof.Machine

/-! ## The encoding family: the decoder and its encoder, the frame format, the replies -/

namespace Sys2Proof

/-! ### Decoding and encoding (30_encoding R95, R98, R104; 10_state R21) -/

theorem wellFormed_unknown {p0 p1 : Byte} : WellFormed (.unknown p0 p1) ↔ definedPair p0 p1 = false := by
  simp [WellFormed, Instr.wf]

/-- A pair that is none of the three commands is selected by the catch-all row (30_encoding R95). -/
theorem decodeReq_unknown {p0 p1 : Byte} (h : definedPair p0 p1 = false) (l : List Byte) :
    decodeReq (p0 :: p1 :: l) = .instr (.unknown p0 p1) l := by
  have hv : ¬ p0.toNat * 256 + p1.toNat ≤ 2 := by
    rw [← Machine.definedPair_iff, h]
    decide
  simp only [decodeReq]
  rw [if_neg (by omega), if_neg (by omega), if_neg (by omega)]

/-- Settles O2, row by row: the word of every row but the catch-all is closed, up to the operand byte, and decodes by
evaluation; the catch-all row is reached by the pairs no other row has. -/
theorem decodeOfEncodeIsIdentity : Obligations.DecodeOfEncodeIsIdentity := by
  intro i rest hw
  cases i with
  | unknown p0 p1 => exact decodeReq_unknown (wellFormed_unknown.mp hw) rest
  | rxAddr b | rxSender b | rxLen b | rxData b => rfl
  | noByte | process | rspPing | rspStatus | rspInput => rfl
  | timeoutCheck => rfl
  | ping => simp [Instr.row, encode, decode, decodeReq]
  | status => simp [Instr.row, encode, decode, decodeReq]
  | input => simp [Instr.row, encode, decode, decodeReq]
  | replyPing | replyStatus | replyInput => rfl

/-- `i` is an instruction of the format `fmt` whose row accepts the selecting value `v` (30_encoding R104). -/
structure SelectedBy (fmt : Format) (v : Nat) (i : Instr) : Prop where
  wf : WellFormed i
  fmt_eq : i.row.fmt = fmt
  accepts : i.row.accepts v = true

/-- What holds of a receiving operation with every operand byte holds of what it decodes to. -/
theorem withOperand_of_forall {P : Instr → Prop} {op : Byte → Instr} {bytes rest : List Byte} {i : Instr}
    (h : withOperand op bytes = .instr i rest) (hop : ∀ b, P (op b)) : P i := by
  cases bytes with
  | nil => cases h
  | cons b l =>
    cases h
    exact hop b

/-- Each branch of the SEQ decoder tests the mask and match of the row it answers. -/
theorem decodeSeq_selected {v : Byte} {bytes rest : List Byte} {i : Instr}
    (h : decodeSeq (v :: bytes) = .instr i rest) : SelectedBy .seq v.toNat i := by
  simp only [decodeSeq] at h
  split_ifs at h with _ hrow hrow hrow hrow hrow hrow hrow hrow hrow
  iterate 4 exact withOperand_of_forall h fun _ => ⟨rfl, rfl, beq_iff_eq.mpr hrow⟩
  iterate 5
    cases h
    exact ⟨rfl, rfl, beq_iff_eq.mpr hrow⟩

/-- A REQ row with all 16 bits in its mask accepts its own pair; the catch-all row, with no bit in its mask, accepts every
pair and is reached by the pairs that are no command. -/
theorem decodeReq_selected {p0 p1 : Byte} {bytes rest : List Byte} {i : Instr}
    (h : decodeReq (p0 :: p1 :: bytes) = .instr i rest) :
    SelectedBy .req (p0.toNat * 256 + p1.toNat) i ∧ rest = bytes := by
  simp only [decodeReq] at h
  split_ifs at h with h0 h1 h2 <;> cases h
  · exact ⟨⟨rfl, rfl, h0 ▸ rfl⟩, rfl⟩
  · exact ⟨⟨rfl, rfl, h1 ▸ rfl⟩, rfl⟩
  · exact ⟨⟨rfl, rfl, h2 ▸ rfl⟩, rfl⟩
  · have hp : definedPair p0 p1 = false := by
      rw [Bool.eq_false_iff, Ne, Machine.definedPair_iff]
      omega
    exact ⟨⟨wellFormed_unknown.mpr hp, rfl, beq_iff_eq.mpr (Nat.and_zero _)⟩, rfl⟩

/-- A reply row is selected by its whole length byte (30_encoding R98). -/
theorem decodeRsp_selected {len : Byte} {bytes rest : List Byte} {i : Instr}
    (h : decodeRsp (len :: bytes) = .instr i rest) : SelectedBy .rsp len.toNat i ∧ rest = bytes := by
  simp only [decodeRsp] at h
  split_ifs at h with hrow hrow hrow <;> cases h <;> exact ⟨⟨rfl, rfl, hrow ▸ rfl⟩, rfl⟩

/-- Settles O3: what each of the three decoders answers is selected by the word it read. -/
theorem decodedInstructionMatchesItsRow : Obligations.DecodedInstructionMatchesItsRow := by
  refine ⟨fun v bytes rest i h => ?_, fun p0 p1 bytes rest i h => ?_, fun len bytes rest i h => ?_⟩
  · have hsel := decodeSeq_selected h
    exact ⟨hsel.wf, hsel.fmt_eq, hsel.accepts⟩
  · obtain ⟨hsel, hrest⟩ := decodeReq_selected h
    exact ⟨hsel.wf, hsel.fmt_eq, hsel.accepts, hrest⟩
  · obtain ⟨hsel, hrest⟩ := decodeRsp_selected h
    exact ⟨hsel.wf, hsel.fmt_eq, hsel.accepts, hrest⟩

end Sys2Proof

namespace Sys2Proof.Machine

open Sys2Proof

/-! ### The frame format (30_encoding R90 to R96) -/

/-- Up to 254 payload bytes the length field does not wrap. -/
theorem lengthField_toNat {payload : List Byte} (h : payload.length ≤ 254) :
    (lengthField payload).toNat = payload.length + 1 :=
  Nat.mod_eq_of_lt (by omega)

theorem frameBytes_length (d s : Byte) (payload : List Byte) :
    (frameBytes d s payload).length = payload.length + 4 := by
  simp [frameBytes]

theorem frameBytes_xor (d s : Byte) (payload : List Byte) : xorAll (frameBytes d s payload) = 0x00 :=
  xorAll_sealed _

/-- Settles O54: three header bytes, the payload, and the exclusive-or of both. -/
theorem framesAreSealed : Obligations.FramesAreSealed := by
  intro d s payload h
  have hlen := lengthField_toNat h
  refine ⟨hlen, ?_, rfl, rfl, rfl, List.take_left, frameBytes_xor d s payload⟩
  rw [frameBytes_length, hlen]
  omega

/-- The exclusive-or may be taken from the front, as the layouts write it. -/
theorem xorAll_cons_eq_foldl (b : Byte) (l : List Byte) : xorAll (b :: l) = l.foldl (· ^^^ ·) b := by
  induction l generalizing b with
  | nil => simp
  | cons c rest ih => rw [List.foldl_cons, ← ih, xorAll_cons, xorAll_cons, xorAll_cons, BitVec.xor_assoc]

/-- The layout of a frame, its checksum from left to right (30_encoding R90, R93). -/
theorem frameBytes_layout (d s : Byte) (payload : List Byte) :
    frameBytes d s payload = d :: s :: lengthField payload :: payload ++
      [payload.foldl (· ^^^ ·) (d ^^^ s ^^^ lengthField payload)] :=
  congrArg (fun x => d :: s :: lengthField payload :: payload ++ [x]) (xorAll_cons_eq_foldl d _)

/-- Settles O55: the layout of a frame with each of the three command pairs. -/
theorem canonicalRequests : Obligations.CanonicalRequests := by
  intro d s
  refine ⟨?_, ?_, ?_⟩
  · rw [pingFrame, frameBytes_layout]
    simp [lengthField]
  · rw [statusFrame, frameBytes_layout]
    simp [lengthField, BitVec.xor_assoc]
  · rw [inputFrame, frameBytes_layout]
    simp [lengthField, BitVec.xor_assoc]

/-! ### The replies (30_encoding R98 to R101, 42_responder R160 to R165) -/

/-- A reply whose length byte is the length field of its payload is a frame from the own address to the sender: the zero
in its checksum slot does not count. -/
theorem replyFrame_eq_frameBytes (s : State) (payload : List Byte) :
    s.replyFrame (lengthField payload) payload = frameBytes s.senderAddr s.cfg.ownAddr payload :=
  congrArg (fun x => [s.senderAddr, s.cfg.ownAddr, lengthField payload] ++ payload ++ [x]) (xorAll_zero_slot _)

/-- Settles O30: the three length bytes are the length fields of the three payloads. -/
theorem repliesAreFrames : Obligations.RepliesAreFrames := fun s =>
  ⟨replyFrame_eq_frameBytes s (serialBytes s.cfg.serial),
    replyFrame_eq_frameBytes s [s.checksumErrorCount, s.timeoutErrorCount],
    replyFrame_eq_frameBytes s [pinByte s.pin]⟩

/-- Settles O27: each reply is a frame, and a frame has its layout. -/
theorem repliesHaveTheirLayouts : Obligations.RepliesHaveTheirLayouts := by
  intro s
  obtain ⟨hping, hstatus, hinput⟩ := repliesAreFrames s
  refine ⟨?_, ?_, fun v hv => ?_⟩
  · exact congrArg (fun f => Host.Outcome.next (s.emit f)) (hping.trans (frameBytes_layout _ _ _))
  · exact congrArg (fun f => Host.Outcome.next (s.emit f)) (hstatus.trans (frameBytes_layout _ _ _))
  · have hpin : (if s.pin then 0x01 else 0x00) = v := by
      obtain ⟨rfl, hp⟩ | ⟨rfl, hp⟩ := hv <;> simp [hp]
    rw [hpin] at hinput
    exact congrArg (fun f => Host.Outcome.next (s.emit f)) (hinput.trans (frameBytes_layout _ _ _))

end Sys2Proof.Machine

/-! ## The framer family: the five receiving operations, and a frame that is consumed whole and dropped -/

namespace Sys2Proof.Machine

open Sys2Proof

/-! ### The receiving operations (40_framer R121 to R125) -/

/-- Settles O8: the flag is the comparison with the own address, and no other field depends on the byte. -/
theorem rxAddrStartsAFrame : Obligations.RxAddrStartsAFrame := fun b s =>
  ⟨_, rfl, rfl, foreignAddr_iff s.cfg.ownAddr b, ⟨rfl, rfl, rfl, rfl⟩, rfl, rfl, rfl, fun _ => rfl, ⟨rfl, rfl⟩,
    ⟨rfl, rfl⟩, rfl, ⟨rfl, rfl, rfl, rfl, rfl⟩⟩

/-- Settles O9: the byte goes to `senderAddr` without a test. -/
theorem rxSenderStoresTheSender : Obligations.RxSenderStoresTheSender := fun _ _ =>
  ⟨_, rfl, rfl, rfl, ⟨rfl, rfl, rfl, rfl⟩, rfl, rfl, rfl, fun _ => rfl, ⟨rfl, rfl⟩, ⟨rfl, rfl⟩, rfl,
    ⟨rfl, rfl, rfl, rfl, rfl⟩⟩

/-- Settles O10: the new flag is the old one or the length test, which is a test against 0 and `BUF_CAP`. -/
theorem rxLenStoresTheLength : Obligations.RxLenStoresTheLength := by
  intro b s
  have hflag : (s.ignoreFrame || malformedLen b) = true ↔ s.ignoreFrame = true ∨ b = 0x00 ∨ 32 < b.toNat := by
    rw [Bool.or_eq_true, malformedLen_iff, bufCap]
  exact ⟨_, rfl, rfl, rfl, hflag, ⟨rfl, rfl, rfl, rfl⟩, rfl, rfl, fun _ => rfl, ⟨rfl, rfl⟩, ⟨rfl, rfl⟩, rfl,
    ⟨rfl, rfl, rfl, rfl, rfl⟩⟩

/-- A store changes no cell but its own, and none where there is no cell (20_memory R61). -/
theorem Memory.read_store_unchanged {m : Memory} {i a : Nat} {v : Byte} (h : a ≠ i ∨ bufCap ≤ i) :
    (m.store i v).read a = m.read a := by
  obtain hother | hbeyond := h
  · exact Memory.read_store_other hother
  · rw [Memory.store_discarded hbeyond]

/-- Settles O11: the buffer clauses are the laws of `Memory.store`, the phase is the comparison of the new count. -/
theorem rxDataAppendsTheByte : Obligations.RxDataAppendsTheByte := fun _ _ hwf =>
  ⟨_, rfl, rfl, fun hend => if_pos hend, fun hmore => if_neg hmore, Memory.read_store_same hwf,
    fun _ => Memory.read_store_unchanged, Memory.store_wf hwf, ⟨rfl, rfl, rfl, rfl⟩, rfl, rfl, rfl, ⟨rfl, rfl⟩,
    ⟨rfl, rfl⟩, rfl, ⟨rfl, rfl, rfl, rfl, rfl⟩⟩

/-- Settles O12: NOBYTE answers its own state, and it is the operation of a receiving phase without a byte. -/
theorem noByteChangesNothing : Obligations.NoByteChangesNothing := fun _ => ⟨rfl, framer_noByte⟩

/-! ### Runs that only take bytes -/

/-- From `s` to `t` the bytes `l` leave the front of the byte source, whatever arrives behind them, and nothing is
emitted, no counter moves and the configuration stays. -/
structure OnlyTakes (l : List Byte) (s t : State) : Prop where
  source   : ∃ more, s.rxSource ++ more = l ++ t.rxSource
  count    : t.bytesTaken = s.bytesTaken + l.length
  txSink   : t.txSink = s.txSink
  counters : SameCounters s t
  cfg      : t.cfg = s.cfg

/-- What was waiting behind the bytes taken is at the front of the source now. -/
theorem OnlyTakes.rest_waits {l rest : List Byte} {s t : State} (h : OnlyTakes l s t)
    (hsrc : s.rxSource = l ++ rest) : ∃ more, t.rxSource = rest ++ more := by
  obtain ⟨more, hmore⟩ := h.source
  rw [hsrc, List.append_assoc] at hmore
  exact ⟨more, (List.append_cancel_left hmore).symm⟩

theorem OnlyTakes.trans {l l' : List Byte} {s t u : State} (h : OnlyTakes l s t) (h' : OnlyTakes l' t u) :
    OnlyTakes (l ++ l') s u where
  source := by
    obtain ⟨more, hmore⟩ := h.source
    obtain ⟨more', hmore'⟩ := h'.source
    exact ⟨more ++ more', by rw [← List.append_assoc, hmore, List.append_assoc, hmore', List.append_assoc]⟩
  count := by rw [h'.count, h.count, List.length_append, Nat.add_assoc]
  txSink := h'.txSink.trans h.txSink
  counters := ⟨h'.counters.checksum.trans h.counters.checksum, h'.counters.timeout.trans h.counters.timeout⟩
  cfg := h'.cfg.trans h.cfg

/-- A receiving phase emits nothing, counts nothing and leaves the configuration and the samples alone. -/
theorem framerPhase_receiving_frame {s t : State} (hs : s.state.receiving = true) (h : framerPhase s = .next t) :
    NothingEmitted s t ∧ SameCounters s t ∧ SameInputs s t := by
  obtain ⟨b, -, -, rfl⟩ | ⟨b, -, -, rfl⟩ | ⟨b, -, -, rfl⟩ | ⟨b, -, -, rfl⟩ | ⟨-, -, rfl⟩ | ⟨hp, -⟩ | ⟨hp, -⟩ |
    ⟨hp, -⟩ | ⟨hp, -⟩ := framerPhase_cases h
  · exact ⟨⟨rfl, rfl⟩, ⟨rfl, rfl⟩, ⟨rfl, rfl, rfl, rfl, rfl⟩⟩
  · exact ⟨⟨rfl, rfl⟩, ⟨rfl, rfl⟩, ⟨rfl, rfl, rfl, rfl, rfl⟩⟩
  · exact ⟨⟨rfl, rfl⟩, ⟨rfl, rfl⟩, ⟨rfl, rfl, rfl, rfl, rfl⟩⟩
  · exact ⟨⟨rfl, rfl⟩, ⟨rfl, rfl⟩, ⟨rfl, rfl, rfl, rfl, rfl⟩⟩
  · exact ⟨⟨rfl, rfl⟩, ⟨rfl, rfl⟩, ⟨rfl, rfl, rfl, rfl, rfl⟩⟩
  all_goals simp [hp, Phase.receiving] at hs

/-- A cycle in a receiving phase with a byte waiting is its Framer phase and takes that byte, unless the monitor comes
first and fires: after the byte it does not fire (40_framer R120). -/
theorem step_takes {s t : State} {b : Byte} {l : List Byte}
    (hq : s.cfg.cycleOrder = .framerFirst ∨ s.beginCycle.expired = false) (hs : s.state.receiving = true)
    (hsrc : s.rxSource = b :: l) (hf : framerPhase s.beginCycle = .next t) :
    step s = .next t ∧ OnlyTakes [b] s t := by
  obtain ⟨hemit, hcounters, hinputs⟩ := framerPhase_receiving_frame (s := s.beginCycle) hs hf
  obtain ⟨-, -, htaken⟩ | ⟨-, hnone, -⟩ | ⟨hsilent, -⟩ := framerPhase_polls hf
  · refine ⟨step_receives hq hf (expired_fresh (htaken.timestamp.trans hinputs.now.symm)), ?_, htaken.count,
      hemit.txSink, ⟨hcounters.checksum, hcounters.timeout⟩, hinputs.cfg⟩
    exact ⟨s.nextInput.arrivals, htaken.source_eq_cons (begin_offer hsrc)⟩
  · simp [begin_offer hsrc] at hnone
  · simp [hs] at hsilent

/-! ### A whole frame under FRAMER_FIRST (40_framer R126) -/

/-- The header: three bytes in three cycles. The flag is the test of the address or the test of the length. -/
theorem run_takes_header {s : State} {dest src len : Byte} {rest : List Byte}
    (ho : s.cfg.cycleOrder = .framerFirst) (hs : s.state = .waitAddr)
    (hsrc : s.rxSource = dest :: src :: len :: rest) :
    ∃ t, runCycles 3 s = .next t ∧ t.state = .gatherData ∧ t.expectedLen = len ∧ t.byteCount = s.byteCount ∧
      t.ignoreFrame = (foreignAddr s.cfg.ownAddr dest || malformedLen len) ∧ OnlyTakes [dest, src, len] s t := by
  obtain ⟨hstepA, htakeA⟩ := step_takes (.inl ho) (hs ▸ rfl) hsrc (framer_waitAddr hs (begin_offer hsrc))
  obtain ⟨moreA, hsrcA⟩ := htakeA.rest_waits hsrc
  obtain ⟨hstepB, htakeB⟩ := step_takes (.inl (htakeA.cfg ▸ ho)) rfl hsrcA (framer_getSender rfl (begin_offer hsrcA))
  obtain ⟨moreB, hsrcB⟩ := htakeB.rest_waits hsrcA
  obtain ⟨hstepC, htakeC⟩ := step_takes (.inl (htakeB.cfg ▸ htakeA.cfg ▸ ho)) rfl hsrcB
    (framer_getLen rfl (begin_offer hsrcB))
  have hrun := (run_succ hstepA).trans ((run_succ hstepB).trans ((run_succ hstepC).trans (run_zero _)))
  exact ⟨_, hrun, rfl, rfl, rfl, rfl, (htakeA.trans htakeB).trans htakeC⟩

/-- The body, by induction on its bytes: while `body` is missing the count is that much short of the length, and the
phase says whether it is. -/
theorem run_gathers_body {s : State} {body rest : List Byte} (ho : s.cfg.cycleOrder = .framerFirst)
    (hphase : s.state = if s.byteCount = s.expectedLen then .processData else .gatherData)
    (hcount : s.byteCount.toNat + body.length = s.expectedLen.toNat) (hsrc : s.rxSource = body ++ rest) :
    ∃ t, runCycles body.length s = .next t ∧ t.state = .processData ∧ t.ignoreFrame = s.ignoreFrame ∧
      OnlyTakes body s t := by
  induction body generalizing s rest with
  | nil =>
    have hfull : s.byteCount = s.expectedLen := BitVec.eq_of_toNat_eq hcount
    exact ⟨s, rfl, hphase.trans (if_pos hfull), rfl, ⟨⟨[], List.append_nil _⟩, rfl, rfl, ⟨rfl, rfl⟩, rfl⟩⟩
  | cons b body ih =>
    rw [List.length_cons] at hcount
    have hlen := s.expectedLen.isLt
    have hgather : s.state = .gatherData := hphase.trans (if_neg fun he => by rw [he] at hcount; omega)
    obtain ⟨hstep, htake⟩ := step_takes (.inl ho) (hgather ▸ rfl) hsrc (framer_gatherData hgather (begin_offer hsrc))
    obtain ⟨more, hsrc'⟩ := htake.rest_waits hsrc
    have hcount' : (add8 s.byteCount).toNat + body.length = s.expectedLen.toNat := by
      rw [add8_toNat (by omega)]
      omega
    obtain ⟨t, hrun, hdone, hflag, htakes⟩ := ih (htake.cfg ▸ ho) (congrArg (ite _ _) hgather) hcount'
      (hsrc'.trans (List.append_assoc _ _ _))
    exact ⟨t, (run_succ hstep).trans hrun, hdone, hflag, htake.trans htakes⟩

/-- The cycle after the last byte drops an ignored frame (41_validator_dispatcher R140), whatever the time: the monitor
finds the block idle. -/
theorem step_drops_ignored {s : State} (ho : s.cfg.cycleOrder = .framerFirst) (hs : s.state = .processData)
    (hi : s.ignoreFrame = true) : ∃ t, step s = .next t ∧ SessionCleared t ∧ OnlyTakes [] s t := by
  obtain ⟨e, he⟩ : ∃ e, execProcess s.beginCycle = .next (s.beginCycle.raise e) := by
    obtain ⟨-, -, h⟩ | ⟨-, -, h⟩ | ⟨hne, -⟩ | ⟨hne, -⟩ := execProcess_cases s.beginCycle
    · exact ⟨_, h⟩
    · exact ⟨_, h⟩
    · simp [hi] at hne
    · simp [hi] at hne
  have hframer : framerPhase s.beginCycle = .next (s.beginCycle.raise e) := by
    rw [framer_processData (s := s.beginCycle) hs, he]
  exact ⟨s.beginCycle.raise e, step_framerFirst_quiet ho hframer (expired_idle rfl),
    raise_cleared _ e, ⟨⟨s.nextInput.arrivals, rfl⟩, rfl, rfl, ⟨rfl, rfl⟩, rfl⟩⟩

/-- Settles O56: header, body and drop, one run after the other. -/
theorem foreignFrameIsConsumedWhole : Obligations.ForeignFrameIsConsumedWhole := by
  intro s dest src len body rest hinv hs ho hdest hlen hbody hsrc
  obtain ⟨a, hrunA, hstate, hexpected, hzero, hflag, hheader⟩ := run_takes_header ho hs hsrc
  obtain ⟨moreA, hsrcA⟩ := hheader.rest_waits hsrc
  rw [(hinv.idle hs).count] at hzero
  have hphase : a.state = if a.byteCount = a.expectedLen then .processData else .gatherData := by
    rw [hstate, hzero, hexpected, if_neg hlen.symm]
  have hcount : a.byteCount.toNat + body.length = a.expectedLen.toNat := by
    rw [hzero, hexpected, hbody]
    exact Nat.zero_add _
  obtain ⟨c, hrunC, hdone, hkept, hpayload⟩ := run_gathers_body (hheader.cfg ▸ ho) hphase hcount
    (hsrcA.trans (List.append_assoc _ _ _))
  have hframe := hheader.trans hpayload
  have hignored : c.ignoreFrame = true := by
    rw [hkept, hflag, (foreignAddr_iff _ _).mpr hdest, Bool.true_or]
  obtain ⟨t, hstep, hcleared, hdrop⟩ := step_drops_ignored (hframe.cfg ▸ ho) hdone hignored
  have hall := hframe.trans hdrop
  refine ⟨t, ?_, hcleared, hall.txSink, hall.counters, ?_, hall.rest_waits ?_⟩
  · rw [← hbody, run_add ((run_add hrunA).trans hrunC), run_succ hstep, run_zero]
  · rw [hall.count, ← hbody]
    simp only [List.length_append, List.length_cons, List.length_nil]
    omega
  · simpa using hsrc

end Sys2Proof.Machine

/-! ## The validator family: PROCESS, its branches and what each branch reads, changes and leaves alone -/

namespace Sys2Proof.Machine

open Sys2Proof

/-! ### Exclusive-or with one byte singled out (00_scope R14) -/

/-- An exclusive-or of three bytes solved for the middle one. -/
theorem xor_eq_iff_middle_eq {x y z v : Byte} : x ^^^ (y ^^^ z) = v ↔ y = x ^^^ (z ^^^ v) := by
  rw [← BitVec.xor_right_inj x, ← BitVec.xor_assoc, BitVec.xor_self, BitVec.zero_xor, ← BitVec.xor_left_inj z,
    BitVec.xor_assoc y, BitVec.xor_self, BitVec.xor_zero, BitVec.xor_assoc, BitVec.xor_comm v]

/-- The last byte of a list with exclusive-or zero is the exclusive-or of the others. -/
theorem last_eq_xorAll {l : List Byte} {b : Byte} (h : xorAll (l ++ [b]) = 0x00) : b = xorAll l := by
  have hxor : xorAll l ^^^ b = 0x00 := by simpa [xorAll_append] using h
  exact (BitVec.xor_eq_zero_iff.mp hxor).symm

/-- Putting another byte in one place changes the exclusive-or (30_encoding R93). -/
theorem xorAll_set_eq_iff {l : List Byte} {k : Nat} {a b : Byte} (hk : l[k]? = some a) :
    xorAll (l.set k b) = xorAll l ↔ b = a := by
  induction l generalizing k with
  | nil => cases hk
  | cons c rest ih =>
    cases k with
    | zero =>
      obtain rfl : c = a := Option.some.inj hk
      simp
    | succ k => simpa using ih hk

/-! ### The verification buffer (41_validator_dispatcher R141) -/

/-- Two states that agree on what is summed have the same verification buffer; the cycle matters only where there is no
cell (log entry 6). -/
theorem verificationBuffer_congr {s s' : State} (hown : s'.cfg.ownAddr = s.cfg.ownAddr)
    (hsender : s'.senderAddr = s.senderAddr) (hlen : s'.expectedLen = s.expectedLen)
    (hcount : s'.byteCount = s.byteCount) (hcycle : bufCap < s.byteCount.toNat → s'.cycle = s.cycle)
    (hcells : ∀ i, i < bufCap → i < s.byteCount.toNat → s'.payloadBuffer.read i = s.payloadBuffer.read i) :
    s'.verificationBuffer = s.verificationBuffer := by
  have hload : ∀ i ∈ List.range s.byteCount.toNat, s'.load i = s.load i := by
    intro i hi
    have hi := List.mem_range.mp hi
    by_cases hcap : i < bufCap
    · rw [load_cell hcap, load_cell hcap, hcells i hcap hi]
    · rw [load_free (not_lt.mp hcap), load_free (not_lt.mp hcap), hcycle (by omega)]
  rw [State.verificationBuffer, State.verificationBuffer, hown, hsender, hlen, hcount, List.map_congr_left hload]

/-! ### The branches of PROCESS (41_validator_dispatcher R139) -/

/-- The event that ends an ignored frame (41_validator_dispatcher R140, 60_exceptions R224, R225). -/
def dropEvent (len : Byte) : Event := if malformedLen len then .malformedLength else .foreignAddress

theorem dropEvent_malformed {len : Byte} (h : len = 0x00 ∨ bufCap < len.toNat) : dropEvent len = .malformedLength :=
  if_pos ((malformedLen_iff len).mpr h)

theorem dropEvent_foreign {len : Byte} (h : ¬ (len = 0x00 ∨ bufCap < len.toNat)) : dropEvent len = .foreignAddress :=
  if_neg (mt (malformedLen_iff len).mp h)

theorem process_of_ignored {s : State} (hi : s.ignoreFrame = true) :
    exec .process s = .next (s.raise (dropEvent s.expectedLen)) := by
  obtain ⟨-, hm, h⟩ | ⟨-, hm, h⟩ | ⟨hne, -⟩ | ⟨hne, -⟩ := execProcess_cases s
  · rwa [dropEvent, if_pos hm]
  · rwa [dropEvent, hm, if_neg Bool.false_ne_true]
  · simp [hi] at hne
  · simp [hi] at hne

theorem process_of_bad_checksum {s : State} (hi : s.ignoreFrame = false) (hx : xorAll s.verificationBuffer ≠ 0x00) :
    exec .process s = .next (s.countChecksumError.raise .checksumMismatch) := by
  obtain ⟨hig, -⟩ | ⟨hig, -⟩ | ⟨-, -, h⟩ | ⟨-, hz, -⟩ := execProcess_cases s
  · simp [hi] at hig
  · simp [hi] at hig
  · exact h
  · exact absurd hz hx

theorem process_of_good {s : State} (hi : s.ignoreFrame = false) (hx : xorAll s.verificationBuffer = 0x00) :
    exec .process s = dispatchPair (s.payloadBuffer.read 0) (s.payloadBuffer.read 1) s := by
  obtain ⟨hig, -⟩ | ⟨hig, -⟩ | ⟨-, hne, -⟩ | ⟨-, -, h⟩ := execProcess_cases s
  · simp [hi] at hig
  · simp [hi] at hig
  · exact absurd hx hne
  · exact h

theorem definedPair_eq_false {p0 p1 : Byte} (h : ¬ (p0 = 0x00 ∧ (p1 = 0x00 ∨ p1 = 0x01 ∨ p1 = 0x02))) :
    definedPair p0 p1 = false := by
  simpa [definedPair, and_assoc] using h

/-- A pair that is none of the three commands is unknown (41_validator_dispatcher R147). -/
theorem dispatchPair_of_undefined {p0 p1 : Byte} (h : definedPair p0 p1 = false) (s : State) :
    dispatchPair p0 p1 s = .next (s.raise .unknownCommand) := by
  obtain ⟨rfl, rfl, -⟩ | ⟨rfl, rfl, -⟩ | ⟨rfl, rfl, -⟩ | ⟨-, e⟩ := dispatchPair_cases p0 p1 s
  · cases h
  · cases h
  · cases h
  · exact e

/-- The dispatch depends on the pair alone: it selects one response phase in every state, or the pair is unknown in
every state. -/
theorem dispatchPair_selects_or_drops (p0 p1 : Byte) :
    (∃ p, p.responding = true ∧ ∀ s, dispatchPair p0 p1 s = .next (s.goto p)) ∨
    ∀ s, dispatchPair p0 p1 s = .next (s.raise .unknownCommand) := by
  obtain ⟨rfl, rfl, -⟩ | ⟨rfl, rfl, -⟩ | ⟨rfl, rfl, -⟩ | ⟨hpair, -⟩ := dispatchPair_cases p0 p1 State.reset
  · exact .inl ⟨.pingResponse, rfl, fun _ => rfl⟩
  · exact .inl ⟨.statusResponse, rfl, fun _ => rfl⟩
  · exact .inl ⟨.inputResponse, rfl, fun _ => rfl⟩
  · exact .inr (dispatchPair_of_undefined hpair)

/-! ### What the commands and the branches of PROCESS change (41_validator_dispatcher R140 to R147, R150) -/

/-- Raising an error clears the session and records the event; counters, sink, byte source and inputs stay
(60_exceptions R228). -/
theorem raise_frame (s : State) (e : Event) :
    SessionCleared (s.raise e) ∧ (s.raise e).events = s.events ++ [e] ∧ SameCounters s (s.raise e) ∧
      NothingEmitted s (s.raise e) ∧ NoByteTaken s (s.raise e) ∧ SameInputs s (s.raise e) :=
  ⟨raise_cleared s e, rfl, ⟨rfl, rfl⟩, ⟨rfl, rfl⟩, ⟨rfl, rfl, rfl, rfl⟩, ⟨rfl, rfl, rfl, rfl, rfl⟩⟩

/-- Settles O18: the three commands are the three writes of the phase. -/
theorem commandsSelectTheirReplyState : Obligations.CommandsSelectTheirReplyState := fun _ => ⟨rfl, rfl, rfl⟩

/-- Settles O19: UNKNOWN raises, whatever its pair. -/
theorem unknownRaisesUnknownCommand : Obligations.UnknownRaisesUnknownCommand := fun _ _ s =>
  ⟨_, rfl, raise_frame s .unknownCommand⟩

/-- Settles O14: the first branch of PROCESS raises, and the length alone says which event. -/
theorem ignoredFrameIsDropped : Obligations.IgnoredFrameIsDropped := by
  intro s hi
  obtain ⟨hcleared, hevent, hrest⟩ := raise_frame s (dropEvent s.expectedLen)
  refine ⟨_, process_of_ignored hi, hcleared, fun hlen => ?_, fun hpos hle => ?_, hrest⟩
  · rw [hevent, dropEvent_malformed hlen]
  · rw [hevent, dropEvent_foreign (not_or_intro hpos (not_lt.mpr hle))]

/-- Settles O15: the second branch of PROCESS counts and raises; the counter is a byte, so 255 plus one is 0. -/
theorem badChecksumIsCountedAndDropped : Obligations.BadChecksumIsCountedAndDropped := by
  intro s hi hx
  have hwrap : s.checksumErrorCount = 0xFF → add8 s.checksumErrorCount = 0x00 := by
    intro h
    rw [h]
    rfl
  exact ⟨_, process_of_bad_checksum hi hx, raise_cleared _ _, rfl, hwrap, rfl, rfl, ⟨rfl, rfl⟩, ⟨rfl, rfl, rfl, rfl⟩,
    ⟨rfl, rfl, rfl, rfl, rfl⟩⟩

/-- Settles O16: the dispatch on the three pairs. -/
theorem goodFrameSelectsItsReply : Obligations.GoodFrameSelectsItsReply := by
  intro s hi hx h0
  rw [process_of_good hi hx, h0]
  exact ⟨fun h1 => by rw [h1]; rfl, fun h1 => by rw [h1]; rfl, fun h1 => by rw [h1]; rfl⟩

/-- Settles O17: the dispatch on any other pair. -/
theorem unknownCommandIsDropped : Obligations.UnknownCommandIsDropped := by
  intro s hi hx hpair
  refine ⟨s.raise .unknownCommand, ?_, raise_frame s .unknownCommand⟩
  rw [process_of_good hi hx, dispatchPair_of_undefined (definedPair_eq_false hpair)]

/-- The dispatch runs the command the pair decodes to (41_validator_dispatcher R143, 30_encoding R95). -/
theorem dispatchPair_runs_decoded (p0 p1 : Byte) (s : State) :
    ∃ i, decode .req [p0, p1] = .instr i [] ∧ dispatchPair p0 p1 s = exec i s := by
  obtain ⟨rfl, rfl, hrun⟩ | ⟨rfl, rfl, hrun⟩ | ⟨rfl, rfl, hrun⟩ | ⟨hpair, hrun⟩ := dispatchPair_cases p0 p1 s
  · exact ⟨.ping, decodeOfEncodeIsIdentity .ping [] rfl, hrun⟩
  · exact ⟨.status, decodeOfEncodeIsIdentity .status [] rfl, hrun⟩
  · exact ⟨.input, decodeOfEncodeIsIdentity .input [] rfl, hrun⟩
  · exact ⟨.unknown p0 p1, decodeReq_unknown hpair [], hrun⟩

/-- Settles O6: a good frame is dispatched, and the dispatch follows the decoder. -/
theorem processRunsDecodedCommand : Obligations.ProcessRunsDecodedCommand := by
  intro s i rest hi hx hdecode
  obtain ⟨j, hj, hrun⟩ := dispatchPair_runs_decoded (s.payloadBuffer.read 0) (s.payloadBuffer.read 1) s
  cases hj.symm.trans hdecode
  exact (process_of_good hi hx).trans hrun

/-- Settles O21: each end of PROCESS is a raise, a counted raise, or a write of the phase after both tests. -/
theorem processGuarantees : Obligations.ProcessGuarantees := by
  intro s t h
  have htake := execProcess_takes_no_byte h
  obtain ⟨e, rfl⟩ | ⟨-, -, rfl⟩ | ⟨p, hp, rfl, hi, hx, -⟩ := execProcess_drops_or_selects h
  · exact ⟨.inl rfl, ⟨rfl, rfl⟩, htake, rfl, absurd rfl, nofun⟩
  · exact ⟨.inl rfl, ⟨rfl, rfl⟩, htake, rfl, fun _ => rfl, nofun⟩
  · exact ⟨.inr hp, ⟨rfl, rfl⟩, htake, rfl, absurd rfl, fun _ => ⟨hi, hx, rfl⟩⟩

/-! ### What PROCESS reads -/

theorem add8_ne_self (v : Byte) : add8 v ≠ v := by
  simp [add8]

/-- States that agree on the operands of PROCESS end it alike: both raise one event, both count and raise, or both
select one response phase. -/
theorem process_ends_alike {s s' : State} (hi : s'.ignoreFrame = s.ignoreFrame)
    (hlen : s'.expectedLen = s.expectedLen)
    (hsum : s.ignoreFrame = false → s'.verificationBuffer = s.verificationBuffer)
    (hpair : s.ignoreFrame = false → s'.commandPair = s.commandPair) :
    (∃ e, exec .process s = .next (s.raise e) ∧ exec .process s' = .next (s'.raise e)) ∨
    (exec .process s = .next (s.countChecksumError.raise .checksumMismatch) ∧
      exec .process s' = .next (s'.countChecksumError.raise .checksumMismatch)) ∨
    (∃ p, p.responding = true ∧ exec .process s = .next (s.goto p) ∧ exec .process s' = .next (s'.goto p)) := by
  cases hs : s.ignoreFrame
  case true =>
    exact .inl ⟨_, process_of_ignored hs, hlen ▸ process_of_ignored (hi.trans hs)⟩
  case false =>
    have hsum := hsum hs
    by_cases hx : xorAll s.verificationBuffer = 0x00
    · have hpair := hpair hs
      simp only [State.commandPair, List.cons.injEq, and_true] at hpair
      rw [process_of_good hs hx, process_of_good (hi.trans hs) (hsum ▸ hx), hpair.1, hpair.2]
      obtain ⟨p, hp, hgoto⟩ | hdrop := dispatchPair_selects_or_drops (s.payloadBuffer.read 0) (s.payloadBuffer.read 1)
      · exact .inr (.inr ⟨p, hp, hgoto s, hgoto s'⟩)
      · exact .inl ⟨_, hdrop s, hdrop s'⟩
    · exact .inr (.inl ⟨process_of_bad_checksum hs hx, process_of_bad_checksum (hi.trans hs) (hsum ▸ hx)⟩)

theorem verificationBuffer_length (s : State) : s.verificationBuffer.length = 3 + s.byteCount.toNat := by
  rw [State.verificationBuffer, List.length_append, List.length_map, List.length_range]
  rfl

/-- The counted bytes stand behind the three header bytes. -/
theorem verificationBuffer_cell {s : State} {i : Nat} (h : i < s.byteCount.toNat) :
    s.verificationBuffer[i + 3]? = some (s.load i) := by
  simp [State.verificationBuffer, h]

/-- Settles O20: the bytes summed, one by one; and states that agree on them and on the pair end PROCESS alike. -/
theorem processReadsOnlyItsOperands : Obligations.ProcessReadsOnlyItsOperands := by
  intro s
  refine ⟨verificationBuffer_length s, rfl, fun i hi => Nat.add_comm 3 i ▸ verificationBuffer_cell hi,
    fun s' hi hlen hagree => ?_⟩
  have hsum : s.ignoreFrame = false → s'.verificationBuffer = s.verificationBuffer := by
    intro h
    obtain ⟨hown, hsender, hcount, hcycle, hcells⟩ := hagree h
    exact verificationBuffer_congr hown hsender hlen hcount hcycle fun i hcap hlt => hcells i hcap (.inl hlt)
  have hpair : s.ignoreFrame = false → s'.commandPair = s.commandPair := by
    intro h
    obtain ⟨-, -, -, -, hcells⟩ := hagree h
    rw [State.commandPair, State.commandPair, hcells 0 (by omega) (by omega), hcells 1 (by omega) (by omega)]
  obtain ⟨e, h, h'⟩ | ⟨h, h'⟩ | ⟨p, hp, h, h'⟩ := process_ends_alike hi hlen hsum hpair
  · exact ⟨_, _, [e], h, h', rfl, rfl, rfl, iff_of_true rfl rfl, .inl ⟨raise_cleared _ _, raise_cleared _ _⟩⟩
  · exact ⟨_, _, [.checksumMismatch], h, h', rfl, rfl, rfl, iff_of_false (add8_ne_self _) (add8_ne_self _),
      .inl ⟨raise_cleared _ _, raise_cleared _ _⟩⟩
  · exact ⟨_, _, [], h, h', rfl, (List.append_nil _).symm, (List.append_nil _).symm, iff_of_true rfl rfl,
      .inr ⟨rfl, rfl, hp⟩⟩

/-- Settles O49: every branch answers, and the invariant bounds the count of an addressed frame by the buffer. -/
theorem processAlwaysCompletes : Obligations.ProcessAlwaysCompletes := by
  refine ⟨fun s => ?_, fun s hinv hs hi => ?_⟩
  · obtain ⟨-, -, h⟩ | ⟨-, -, h⟩ | ⟨-, -, h⟩ | ⟨-, -, h⟩ := execProcess_cases s
    · exact ⟨_, h⟩
    · exact ⟨_, h⟩
    · exact ⟨_, h⟩
    · obtain ⟨t, ht⟩ := dispatchPair_completes (s.payloadBuffer.read 0) (s.payloadBuffer.read 1) s
      exact ⟨t, h.trans ht⟩
  · obtain ⟨hlo, hhi⟩ := hinv.addressed (.inr hs) hi
    rw [← hinv.gathered hs] at hlo hhi
    exact ⟨hlo, hhi, verificationBuffer_of_le hhi⟩

/-! ### One corrupted byte (41_validator_dispatcher R142, 30_encoding R93) -/

/-- Cells that change in one place change the list of cells in that place. -/
theorem cells_eq_set {m m' : Memory} {k : Nat} (h : ∀ a, a ≠ k → m'.read a = m.read a) (n : Nat) :
    (List.range n).map m'.read = ((List.range n).map m.read).set k (m'.read k) := by
  refine List.ext_getElem (by simp) fun i _ _ => ?_
  by_cases hi : i = k
  · simp [hi]
  · simp [h i hi, List.getElem_set_ne (Ne.symm hi)]

/-- A good verification buffer with another byte in one place is a checksum error. -/
theorem process_of_one_byte_off {s s' : State} {k : Nat} {a b : Byte} (hx : xorAll s.verificationBuffer = 0x00)
    (hi : s'.ignoreFrame = false) (hk : s.verificationBuffer[k]? = some a) (hb : b ≠ a)
    (hset : s'.verificationBuffer = s.verificationBuffer.set k b) :
    exec .process s' = .next (s'.countChecksumError.raise .checksumMismatch) := by
  refine process_of_bad_checksum hi fun hz => hb ?_
  rw [hset] at hz
  exact (xorAll_set_eq_iff hk).mp (hz.trans hx.symm)

/-- Settles O23: another sender is another byte in place 1 of the verification buffer, another byte in cell `k` one in
place `k + 3`. -/
theorem oneCorruptedByteIsDetected : Obligations.OneCorruptedByteIsDetected := by
  intro s s' _ hle hx hi hcfg hlen hcount hoff
  have hbuf := verificationBuffer_of_le hle
  have hbuf' := verificationBuffer_of_le (s := s') (hcount ▸ hle)
  rw [hcfg, hlen, hcount] at hbuf'
  suffices h : exec .process s' = .next (s'.countChecksumError.raise .checksumMismatch) from
    ⟨_, h, rfl, rfl, rfl, rfl⟩
  obtain ⟨hsender, hsame⟩ | ⟨hsender, k, hk, hcell, hsame⟩ := hoff
  · refine process_of_one_byte_off (k := 1) hx hi rfl hsender ?_
    rw [hbuf', hbuf, List.map_congr_left fun a _ => hsame a]
    rfl
  · have hload : s.load k = s.payloadBuffer.read k := load_cell (lt_of_lt_of_le hk hle)
    refine process_of_one_byte_off hx hi (verificationBuffer_cell hk) (hload ▸ hcell) ?_
    rw [hbuf', hbuf, hsender]
    exact congrArg _ (cells_eq_set hsame _)

/-! ### Frames of length 1 and 2 (41_validator_dispatcher R148) -/

/-- The last byte a good frame gathers is the exclusive-or of its header and the bytes before. -/
theorem last_cell_eq_xorAll {s : State} {n : Nat} (hcount : s.byteCount.toNat = n + 1) (hn : n + 1 ≤ bufCap)
    (hx : xorAll s.verificationBuffer = 0x00) :
    s.payloadBuffer.read n =
      xorAll ([s.cfg.ownAddr, s.senderAddr, s.expectedLen] ++ (List.range n).map s.payloadBuffer.read) := by
  rw [verificationBuffer_of_le (hcount ▸ hn), hcount, List.range_succ, List.map_append, ← List.append_assoc] at hx
  exact last_eq_xorAll hx

/-- A good frame of length 1: which sender gives which byte in cell 0. -/
theorem cell0_of_length_1 {s : State} (hlen : s.expectedLen = 0x01) (hcount : s.byteCount = s.expectedLen)
    (hx : xorAll s.verificationBuffer = 0x00) (v : Byte) :
    s.payloadBuffer.read 0 = v ↔ s.senderAddr = s.cfg.ownAddr ^^^ (0x01 ^^^ v) := by
  rw [last_cell_eq_xorAll (n := 0) (by rw [hcount, hlen]; rfl) (by decide) hx, hlen, ← xor_eq_iff_middle_eq]
  simp

/-- A good frame of length 2 with payload byte 0: which sender gives which byte in cell 1. -/
theorem cell1_of_length_2 {s : State} (hlen : s.expectedLen = 0x02) (hcount : s.byteCount = s.expectedLen)
    (hx : xorAll s.verificationBuffer = 0x00) (h0 : s.payloadBuffer.read 0 = 0x00) (v : Byte) :
    s.payloadBuffer.read 1 = v ↔ s.senderAddr = s.cfg.ownAddr ^^^ (0x02 ^^^ v) := by
  rw [last_cell_eq_xorAll (n := 1) (by rw [hcount, hlen]; rfl) (by decide) hx, hlen, ← xor_eq_iff_middle_eq]
  simp [h0]

/-- Settles O22: with the length fixed, the sender fixes the command pair, and the pair the dispatch. -/
theorem shortFramesFollowTheLiteralRules : Obligations.ShortFramesFollowTheLiteralRules := by
  intro s hi hcount hx
  rw [process_of_good hi hx]
  refine ⟨fun hlen h1 => ?_, fun hlen h0 => ?_, fun _ h0 => ?_⟩
  · have hcell := cell0_of_length_1 hlen hcount hx
    refine ⟨fun hs => ?_, fun hs => ?_⟩
    · rw [(hcell 0x00).mpr hs, h1]
      rfl
    · exact dispatchPair_of_undefined (definedPair_eq_false fun h => hs ((hcell 0x00).mp h.1)) s
  · have hcell := cell1_of_length_2 hlen hcount hx h0
    rw [h0]
    refine ⟨?_, fun hs => ?_, fun hs => ?_, fun hs => ?_, fun hping hstatus hinput => ?_⟩
    · exact (hcell _).mpr (xor_eq_iff_middle_eq.mp (BitVec.xor_assoc _ _ _).symm)
    · rw [(hcell 0x00).mpr hs]
      rfl
    · rw [(hcell 0x01).mpr hs]
      rfl
    · rw [(hcell 0x02).mpr (hs.trans (BitVec.xor_zero).symm)]
      rfl
    · refine dispatchPair_of_undefined (definedPair_eq_false ?_) s
      rintro ⟨-, h | h | h⟩
      · exact hping ((hcell _).mp h)
      · exact hstatus ((hcell _).mp h)
      · exact hinput (((hcell _).mp h).trans BitVec.xor_zero)
  · exact dispatchPair_of_undefined (definedPair_eq_false fun h => h0 h.1) s

end Sys2Proof.Machine

/-! ## The responder family: a response operation is its reply row, then the per-frame reset -/

namespace Sys2Proof.Machine

open Sys2Proof

/-! ### A response in terms of its reply row (42_responder R160, R163 to R165; log entry 8) -/

theorem exec_rspPing (s : State) :
    exec .rspPing s = andThen (exec .replyPing s) fun u => .next u.resetSession := rfl

theorem exec_rspStatus (s : State) :
    exec .rspStatus s = andThen (exec .replyStatus s) fun u => .next u.resetSession := rfl

theorem exec_rspInput (s : State) :
    exec .rspInput s = andThen (exec .replyInput s) fun u => .next u.resetSession := rfl

/-! ### What a response changes (42_responder R160) -/

/-- Emitting a reply and then resetting the session extends sink and output by the reply and clears the session;
counters, byte source, timestamp, events and inputs stay. -/
theorem reply_frame (s : State) (f : List Byte) :
    (s.emit f).resetSession.txSink = s.txSink ++ f ∧
      (∃ g, (s.emit f).resetSession.tx = s.tx ++ g ∧ (s.emit f).resetSession.txSink = s.txSink ++ g) ∧
      SessionCleared (s.emit f).resetSession ∧ SameCounters s (s.emit f).resetSession ∧
      NoByteTaken s (s.emit f).resetSession ∧ (s.emit f).resetSession.events = s.events ∧
      SameInputs s (s.emit f).resetSession :=
  ⟨rfl, ⟨f, rfl, rfl⟩, resetSession_cleared _, ⟨rfl, rfl⟩, ⟨rfl, rfl, rfl, rfl⟩, rfl, ⟨rfl, rfl, rfl, rfl, rfl⟩⟩

/-- Settles O24: the Ping reply has its layout, and the response is that reply and the reset. -/
theorem rspPingEmitsTheSerialNumber : Obligations.RspPingEmitsTheSerialNumber := by
  intro s
  obtain ⟨hping, -, -⟩ := repliesHaveTheirLayouts s
  rw [exec_rspPing, hping]
  exact ⟨_, rfl, reply_frame s _⟩

/-- Settles O25: the Status reply has its layout, and neither the emission nor the reset writes a counter. -/
theorem rspStatusReportsTheCounters : Obligations.RspStatusReportsTheCounters := by
  intro s
  obtain ⟨-, hstatus, -⟩ := repliesHaveTheirLayouts s
  rw [exec_rspStatus, hstatus]
  exact ⟨_, rfl, reply_frame s _⟩

/-- The pin byte is 1 with the pin high and 0 with it low (42_responder R165). -/
theorem pinByte_cases (pin : Bool) : (pinByte pin = 0x01 ∧ pin = true) ∨ (pinByte pin = 0x00 ∧ pin = false) := by
  cases pin
  · exact .inr ⟨rfl, rfl⟩
  · exact .inl ⟨rfl, rfl⟩

/-- Settles O26: the Input reply has its layout with the byte of the pin sampled in this cycle. -/
theorem rspInputReportsThePin : Obligations.RspInputReportsThePin := by
  intro s
  obtain ⟨-, -, hinput⟩ := repliesHaveTheirLayouts s
  rw [exec_rspInput, hinput (pinByte s.pin) (pinByte_cases s.pin)]
  exact ⟨_, pinByte s.pin, rfl, congrArg pinByte, congrArg pinByte, reply_frame s _⟩

end Sys2Proof.Machine

/-! ## The timeout family: TIMEOUT_CHECK, what a late cycle does to a frame, and how elapsed time is kept -/

namespace Sys2Proof.Machine

open Sys2Proof

/-! ### TIMEOUT_CHECK by itself (43_timeout_monitor R180 to R182, R186) -/

/-- Settles O31: the condition is that of R180, and the counter is a byte, so 255 plus one is 0. -/
theorem expiredGapAbortsTheFrame : Obligations.ExpiredGapAbortsTheFrame := by
  intro s hs hgap
  have hwrap : s.timeoutErrorCount = 0xFF → add8 s.timeoutErrorCount = 0x00 := congrArg add8
  exact ⟨_, monitor_fires ((expired_iff s).mpr ⟨hs, hgap⟩), raise_cleared _ _, rfl, hwrap, rfl, rfl, ⟨rfl, rfl⟩,
    ⟨rfl, rfl, rfl, rfl⟩, ⟨rfl, rfl, rfl, rfl, rfl⟩⟩

/-- Within the bound the condition is false, whatever the phase (43_timeout_monitor R180). -/
theorem expired_within_bound {s : State}
    (h : (s.now - s.lastActivityTimestamp).toNat ≤ s.cfg.timeoutMs.toNat) : s.expired = false :=
  Bool.eq_false_iff.mpr fun he => absurd h (not_le.mpr ((expired_iff s).mp he).2)

/-- Settles O32: either half of the condition, when it is false, keeps the monitor quiet. -/
theorem unexpiredGapChangesNothing : Obligations.UnexpiredGapChangesNothing := fun _ =>
  ⟨fun hs => monitor_quiet (expired_idle hs), fun hle => monitor_quiet (expired_within_bound hle)⟩

/-- Settles O33: a difference is above 0 exactly when it is not 0, and none is above the largest time stamp. -/
theorem boundCorners : Obligations.BoundCorners := by
  refine fun s hs => ⟨fun hzero => ?_, fun hmax => expired_within_bound ?_⟩
  · have hpos : 0 < (s.now - s.lastActivityTimestamp).toNat ↔ s.now ≠ s.lastActivityTimestamp :=
      Nat.pos_iff_ne_zero.trans ((not_congr (BitVec.toNat_inj (y := 0))).trans sub_ne_zero)
    rw [expired_iff, hzero]
    exact (and_iff_right hs).trans hpos
  · rw [hmax]
    exact Nat.le_pred_of_lt (s.now - s.lastActivityTimestamp).isLt

/-! ### A late cycle without a byte (43_timeout_monitor R181, R182, 44_polling_cycle R204) -/

/-- Moving to another non-idle phase does not reset the watchdog (43_timeout_monitor R184). -/
theorem expired_goto {s : State} {p : Phase} (hp : p ≠ .waitAddr) (he : s.expired = true) :
    (s.goto p).expired = true :=
  (expired_iff _).mpr ⟨hp, ((expired_iff s).mp he).2⟩

/-- A late silent cycle whose Framer phase at most moves to another non-idle phase is the abort alone, in either order:
the abort clears the phase anyway. -/
theorem step_aborts_silent {s : State} {p : Phase} (he : s.beginCycle.expired = true)
    (hr : s.beginCycle.rxOffer = none) (hp : p ≠ .waitAddr)
    (hf : framerPhase s.beginCycle = .next (s.beginCycle.goto p)) :
    step s = .next (s.beginCycle.countTimeoutError.raise .frameTimeout) := by
  cases ho : s.cfg.cycleOrder
  · rw [step_framerFirst_fires ho hf (expired_goto hp he)]
    rfl
  · exact step_timeoutFirst_fires_silent ho he hr

/-- Settles O34: in the three phases a silent Framer phase stays, so the cycle is the abort. -/
theorem stalledFrameIsAborted : Obligations.StalledFrameIsAborted := by
  intro s hs hr he
  have hreceiving : s.state.receiving = true := by
    obtain h | h | h := hs <;> rw [h] <;> rfl
  have hstay : framerPhase s.beginCycle = .next (s.beginCycle.goto s.state) := framer_noByte hreceiving hr
  exact ⟨_, step_aborts_silent he hr ((expired_iff _).mp he).1 hstay, raise_cleared _ _, rfl, rfl, rfl, rfl, rfl, rfl⟩

/-- One of the three command pairs selects a response phase (41_validator_dispatcher R144 to R146). -/
theorem dispatchPair_of_defined {p0 p1 : Byte} (h : definedPair p0 p1 = true) (s : State) :
    ∃ p, p ≠ .waitAddr ∧ dispatchPair p0 p1 s = .next (s.goto p) := by
  obtain ⟨-, -, e⟩ | ⟨-, -, e⟩ | ⟨-, -, e⟩ | ⟨hundefined, -⟩ := dispatchPair_cases p0 p1 s
  · exact ⟨.pingResponse, nofun, e⟩
  · exact ⟨.statusResponse, nofun, e⟩
  · exact ⟨.inputResponse, nofun, e⟩
  · simp [h] at hundefined

/-- Settles O36: a good frame only moves on to its response phase and is aborted there; a bad one is dropped by the phase
of the cycle that comes first. -/
theorem lateProcessingLosesTheFrame : Obligations.LateProcessingLosesTheFrame := by
  intro s hs hi he hr
  have hprocess : framerPhase s.beginCycle = exec .process s.beginCycle := framer_processData hs
  refine ⟨fun hx h0 h1 => ?_, fun hx ho => ?_, fun _ ho => ?_⟩
  · have hdefined : definedPair (s.payloadBuffer.read 0) (s.payloadBuffer.read 1) = true := by
      rw [definedPair_iff, h0]
      show 0 * 256 + _ ≤ 2
      omega
    obtain ⟨p, hp, hdispatch⟩ := dispatchPair_of_defined hdefined s.beginCycle
    have hf := (hprocess.trans (process_of_good hi hx)).trans hdispatch
    exact ⟨_, step_aborts_silent he hr hp hf, raise_cleared _ _, rfl, rfl, rfl, rfl⟩
  · have hf := hprocess.trans (process_of_bad_checksum hi hx)
    exact ⟨_, step_framerFirst_quiet ho hf (expired_idle rfl), raise_cleared _ _, rfl, rfl, rfl, rfl⟩
  · exact ⟨_, step_timeoutFirst_fires_silent ho he hr, raise_cleared _ _, rfl, rfl, rfl, rfl⟩

/-! ### Elapsed time from cycle to cycle (43_timeout_monitor R183, R185) -/

/-- Sampling advances the elapsed time by the advance of the time sample, modulo `2^32`. -/
theorem beginCycle_elapsed (s : State) :
    s.beginCycle.elapsed = s.elapsed + (s.beginCycle.now - s.now) :=
  (sub_add_sub_cancel' _ _ _).symm

/-- The elapsed time after the Framer phase is 0 if it took a byte and as before it otherwise. -/
theorem framerPhase_elapsed {s t : State} (h : framerPhase s = .next t) (hnone : s.rxTake = false) :
    t.elapsed = if t.rxTake then 0 else s.elapsed := by
  have hnow : t.now = s.now := (exec_registerWriters h).inputs.now
  obtain ⟨-, -, htaken⟩ | ⟨-, -, rfl⟩ | ⟨-, hkept⟩ := framerPhase_polls h
  · rw [htaken.take, if_pos rfl, State.elapsed, subTs, hnow, htaken.timestamp, sub_self]
  · rw [hnone]
    rfl
  · rw [hkept.take, hnone, State.elapsed, hnow, hkept.timestamp]
    rfl

/-- Settles O38: the counter is advanced by the sampling and cleared by the Framer phase just as the elapsed time is, and
the two conditions compare the same number. -/
theorem watchdogCounterIsTheElapsedTime : Obligations.WatchdogCounterIsTheElapsedTime := by
  rintro s m w rfl hf
  have hafter : watchdogNext s.elapsed (s.beginCycle.now - s.now) m.rxTake = m.elapsed := by
    rw [framerPhase_elapsed hf rfl, beginCycle_elapsed, watchdogNext]
  have hcfg : m.cfg = s.cfg := (exec_registerWriters hf).inputs.cfg
  refine ⟨(beginCycle_elapsed s).symm, hafter, ?_⟩
  rw [hafter, ← hcfg, watchdogFires, State.expired]

/-- Settles O39: the bound and the legal advance together stay below `2^32`, so the sum does not wrap. -/
theorem elapsedTimeDoesNotWrap : Obligations.ElapsedTimeDoesNotWrap := by
  intro s hbound hlegal
  have hadvance : (s.beginCycle.now - s.now).toNat < 2 ^ 32 - s.cfg.timeoutMs.toNat := hlegal
  rw [beginCycle_elapsed, BitVec.toNat_add, Nat.mod_eq_of_lt]
  omega

end Sys2Proof.Machine

/-! ## The polling cycle family: totality, the two cycle orders, the bounds and the ports of a cycle, a good request -/

namespace Sys2Proof.Machine

open Sys2Proof

/-! ### Every step completes (44_polling_cycle R207) -/

theorem exec_completes (i : Instr) (s : State) : ∃ t, exec i s = .next t := by
  cases i
  case process => exact processAlwaysCompletes.1 s
  all_goals exact ⟨_, rfl⟩

theorem framerPhase_completes (s : State) : ∃ t, framerPhase s = .next t := exec_completes _ s

theorem monitorPhase_completes (s : State) : ∃ t, monitorPhase s = .next t := exec_completes _ s

/-- Two phases that complete from every state complete one after the other. -/
theorem andThen_completes {f g : State → Host.Outcome State Fault Refusal} (hf : ∀ s, ∃ t, f s = .next t)
    (hg : ∀ s, ∃ t, g s = .next t) (s : State) : ∃ t, andThen (f s) g = .next t := by
  obtain ⟨m, hm⟩ := hf s
  rw [hm]
  exact hg m

/-- Settles O48: both phases complete, in either order. -/
theorem stepAlwaysCompletes : Obligations.StepAlwaysCompletes := by
  intro s
  cases ho : s.cfg.cycleOrder
  · rw [step_framerFirst ho]
    exact andThen_completes framerPhase_completes monitorPhase_completes _
  · rw [step_timeoutFirst ho]
    exact andThen_completes monitorPhase_completes framerPhase_completes _

/-! ### The decoder selects the operation of the Framer phase (44_polling_cycle R201, 30_encoding R104) -/

/-- What the SEQ decoder reads is the operation that the phase and the offer select. -/
theorem decode_fetchBytes (s : State) :
    ∃ rest, decode .seq s.fetchBytes = .instr (selectOperation s.state s.rxOffer) rest := by
  obtain ⟨htakes, hstays, hsilent⟩ := selectionFollowsThePhaseTable s
  cases hs : s.state
  case processData | pingResponse | statusResponse | inputResponse =>
    exact ⟨_, hsilent _ (by simp [hs, selectOperation])⟩
  all_goals
    cases hr : s.rxOffer with
    | none => exact ⟨_, hstays (hs ▸ rfl) hr⟩
    | some b => exact ⟨_, htakes b hr _ (by simp [hs, selectOperation])⟩

theorem framerPhase_of_decoded {s : State} {i : Instr} {rest : List Byte}
    (h : decode .seq s.fetchBytes = .instr i rest) : framerPhase s = exec i s := by
  obtain ⟨rest', h'⟩ := decode_fetchBytes s
  cases h'.symm.trans h
  rfl

/-- Settles O5: the Framer phase is the decoded operation, and a step is the two phases in their order. -/
theorem stepRunsDecodedOperation : Obligations.StepRunsDecodedOperation := by
  refine ⟨fun s => ⟨_, decode_fetchBytes s⟩, fun s i rest ho hdecode => ?_, fun s m i rest ho hm hdecode => ?_⟩
  · rw [step_framerFirst ho, framerPhase_of_decoded hdecode]
    rfl
  · have hmonitor : monitorPhase s.beginCycle = .next m := hm
    rw [step_timeoutFirst ho, hmonitor, andThen_next, framerPhase_of_decoded hdecode]

/-! ### The two cycle orders agree without a timeout (44_polling_cycle R204) -/

/-- `s` under another cycle order. -/
def State.withOrder (s : State) (o : CycleOrder) : State := { s with cfg := { s.cfg with cycleOrder := o } }

/-- PROCESS does not read the cycle order: both states end it alike. -/
theorem process_withOrder {s t : State} (o : CycleOrder) (h : exec .process s = .next t) :
    exec .process (s.withOrder o) = .next (t.withOrder o) := by
  obtain ⟨e, hs, hs'⟩ | ⟨hs, hs'⟩ | ⟨p, -, hs, hs'⟩ :=
    process_ends_alike (s := s) (s' := s.withOrder o) rfl rfl (fun _ => rfl) fun _ => rfl
  all_goals
    cases hs.symm.trans h
    exact hs'

/-- No operation of the Framer phase reads the cycle order. -/
theorem framerPhase_withOrder {s t : State} (o : CycleOrder) (h : framerPhase s = .next t) :
    framerPhase (s.withOrder o) = .next (t.withOrder o) := by
  obtain ⟨b, hs, hb, rfl⟩ | ⟨b, hs, hb, rfl⟩ | ⟨b, hs, hb, rfl⟩ | ⟨b, hs, hb, rfl⟩ | ⟨hs, hb, rfl⟩ | ⟨hs, hp⟩ |
    ⟨hs, rfl⟩ | ⟨hs, rfl⟩ | ⟨hs, rfl⟩ := framerPhase_cases h
  · exact framer_waitAddr (s := s.withOrder o) hs hb
  · exact framer_getSender (s := s.withOrder o) hs hb
  · exact framer_getLen (s := s.withOrder o) hs hb
  · rw [framer_gatherData (s := s.withOrder o) hs hb, ← hs]
    rfl
  · exact framer_noByte (s := t.withOrder o) hs hb
  · exact (framer_processData (s := s.withOrder o) hs).trans (process_withOrder o hp)
  · exact framer_pingResponse (s := s.withOrder o) hs
  · exact framer_statusResponse (s := s.withOrder o) hs
  · exact framer_inputResponse (s := s.withOrder o) hs

/-- Settles O37: the Framer phase and the monitor's condition do not read the cycle order, and a cycle whose monitor is
quiet is its Framer phase. -/
theorem cycleOrdersAgreeWithoutTimeout : Obligations.CycleOrdersAgreeWithoutTimeout := by
  intro s m o hf hbefore hafter
  exact step_quiet (s := s.withOrder o) hbefore (framerPhase_withOrder o hf) hafter

/-! ### Cycles without a byte (44_polling_cycle R207) -/

/-- Settles O51: NOBYTE stays and the monitor never fires in the idle phase. -/
theorem idleWaitsForEver : Obligations.IdleWaitsForEver := by
  intro s hs hr
  have hidle : s.beginCycle.expired = false := expired_idle hs
  exact step_quiet hidle (framer_noByte (hs ▸ rfl) hr) hidle

/-- A late Framer phase without a byte does not refresh the timestamp: it ends idle or leaves the gap expired. -/
theorem framerPhase_late_silent {s t : State} (h : framerPhase s = .next t) (he : s.expired = true)
    (hr : s.rxOffer = none) : t.state = .waitAddr ∨ t.expired = true := by
  obtain ⟨-, ⟨b, hb⟩, -⟩ | ⟨-, -, rfl⟩ | ⟨-, hkept⟩ := framerPhase_polls h
  · simp [hr] at hb
  · exact .inr he
  · have hinputs := (exec_registerWriters h).inputs
    refine or_iff_not_imp_left.mpr fun hs => (expired_iff t).mpr ⟨hs, ?_⟩
    rw [hinputs.cfg, hinputs.now, hkept.timestamp]
    exact ((expired_iff s).mp he).2

/-- Settles O50: what the Framer phase does not end, the monitor aborts. -/
theorem expiredSilentCycleEndsIdle : Obligations.ExpiredSilentCycleEndsIdle := by
  intro s he hr
  cases ho : s.cfg.cycleOrder
  · obtain ⟨m, hf⟩ := framerPhase_completes s.beginCycle
    obtain hidle | hlate := framerPhase_late_silent hf he hr
    · exact ⟨m, step_framerFirst_quiet ho hf (expired_idle hidle), hidle⟩
    · exact ⟨_, step_framerFirst_fires ho hf hlate, rfl⟩
  · exact ⟨_, step_timeoutFirst_fires_silent ho he hr, rfl⟩

/-! ### A late cycle under both orders (44_polling_cycle R204) -/

/-- The Framer phase of a response phase emits that phase's reply and resets the session (42_responder R163 to R165). -/
theorem framer_responds {s : State} (hs : s.state.responding = true) :
    ∃ f, framerPhase s = .next (s.emit f).resetSession ∧ (s.state = .pingResponse → f = s.pingReply) ∧
      (s.state = .statusResponse → f = s.statusReply) ∧ (s.state = .inputResponse → f = s.inputReply) := by
  obtain h | h | h := responding_iff.mp hs
  · exact ⟨_, framer_pingResponse h, fun _ => rfl, by simp [h], by simp [h]⟩
  · exact ⟨_, framer_statusResponse h, by simp [h], fun _ => rfl, by simp [h]⟩
  · exact ⟨_, framer_inputResponse h, by simp [h], by simp [h], fun _ => rfl⟩

/-- FRAMER_FIRST with a byte on offer in a receiving phase: the byte is taken and the monitor then finds a fresh
timestamp, however late the byte is. -/
theorem step_framerFirst_byte {s : State} {b : Byte} (ho : s.cfg.cycleOrder = .framerFirst)
    (hs : s.state.receiving = true) (hr : s.beginCycle.rxOffer = some b) :
    ∃ t, step s = .next t ∧ framerPhase s.beginCycle = .next t ∧ t.timeoutErrorCount = s.timeoutErrorCount ∧
      t.rxTake = true := by
  obtain ⟨t, hf⟩ := framerPhase_completes s.beginCycle
  obtain ⟨-, hcounters, hinputs⟩ := framerPhase_receiving_frame (s := s.beginCycle) hs hf
  obtain ⟨-, -, htaken⟩ | ⟨-, hnone, -⟩ | ⟨hsilent, -⟩ := framerPhase_polls hf
  · have hfresh : t.expired = false := expired_fresh (htaken.timestamp.trans hinputs.now.symm)
    exact ⟨t, step_framerFirst_quiet ho hf hfresh, hf, hcounters.timeout, htaken.take⟩
  · simp [hr] at hnone
  · simp [hs] at hsilent

/-- TIMEOUT_FIRST with the gap expired: the frame is aborted with nothing emitted, whether a byte is on offer or not. -/
theorem step_timeoutFirst_late {s : State} (ho : s.cfg.cycleOrder = .timeoutFirst)
    (he : s.beginCycle.expired = true) :
    ∃ t, step s = .next t ∧ t.tx = [] ∧ t.txSink = s.txSink ∧ t.timeoutErrorCount = s.timeoutErrorCount + 1 := by
  cases hr : s.beginCycle.rxOffer with
  | none => exact ⟨_, step_timeoutFirst_fires_silent ho he hr, rfl, rfl, rfl⟩
  | some b => exact ⟨_, step_timeoutFirst_fires_byte ho he hr, rfl, rfl, rfl⟩

/-- Settles O35: the phase that comes first decides, since it clears what the other would act on. -/
theorem expiredGapUnderBothOrders : Obligations.ExpiredGapUnderBothOrders := by
  refine fun s he => ⟨fun b hs hr => ⟨fun ho => step_framerFirst_byte ho hs hr, fun ho => ?_⟩,
    fun hs => ⟨fun ho => ?_, fun ho => step_timeoutFirst_late ho he⟩⟩
  · exact ⟨_, step_timeoutFirst_fires_byte ho he hr, rfl, foreignAddr_iff s.cfg.ownAddr b, rfl, rfl, rfl⟩
  · obtain ⟨f, hf, hping, hstatus, hinput⟩ := framer_responds (s := s.beginCycle) hs
    exact ⟨_, step_framerFirst_quiet ho hf (expired_idle rfl), rfl, hping, hstatus, hinput, rfl⟩

/-! ### The bounds of a cycle (44_polling_cycle R206) -/

/-- A Framer phase takes the byte at the front of the source and emits nothing, or takes no byte. -/
theorem framerPhase_takes_at_most_one {s t : State} (h : framerPhase s = .next t) :
    (OneByteTaken s t ∧ s.rxSource ≠ [] ∧ t.tx = s.tx) ∨ NoByteTaken s t := by
  obtain ⟨hs, ⟨b, hb⟩, htaken⟩ | ⟨-, -, rfl⟩ | ⟨-, hkept⟩ := framerPhase_polls h
  · have hne : s.rxSource ≠ [] := List.ne_nil_of_mem (List.mem_of_mem_head? hb)
    obtain ⟨hemit, -, -⟩ := framerPhase_receiving_frame hs h
    exact .inl ⟨htaken, hne, hemit.tx⟩
  · exact .inr ⟨rfl, rfl, rfl, rfl⟩
  · exact .inr hkept

/-- So does a step: the monitor takes nothing and emits nothing, before the Framer phase or after it. -/
theorem step_takes_at_most_one {s t : State} (h : step s = .next t) :
    (OneByteTaken s.beginCycle t ∧ s.beginCycle.rxSource ≠ [] ∧ t.tx = []) ∨ NoByteTaken s.beginCycle t := by
  obtain ⟨-, m, hf, ⟨-, rfl⟩ | ⟨-, rfl⟩⟩ | ⟨-, ⟨-, hf⟩ | ⟨-, hf⟩⟩ := step_cases h
  · obtain ⟨h1, hne, htx⟩ | h0 := framerPhase_takes_at_most_one hf
    · exact .inl ⟨⟨h1.source, h1.take, h1.count, h1.timestamp⟩, hne, htx⟩
    · exact .inr ⟨h0.source, h0.take, h0.count, h0.timestamp⟩
  · exact framerPhase_takes_at_most_one hf
  · obtain ⟨h1, hne, htx⟩ | h0 := framerPhase_takes_at_most_one hf
    · exact .inl ⟨⟨h1.source, h1.take, h1.count, h1.timestamp⟩, hne, htx⟩
    · exact .inr ⟨h0.source, h0.take, h0.count, h0.timestamp⟩
  · exact framerPhase_takes_at_most_one hf

/-- A Framer phase raises nothing and counts nothing, or it is a PROCESS that drops its frame: one event, at most a
checksum error counted. -/
theorem framerPhase_raises_at_most_one {s t : State} (h : framerPhase s = .next t) :
    (t.events = s.events ∧ SameCounters s t) ∨
    (s.state = .processData ∧ ∃ e, t = s.raise e ∨ t = s.countChecksumError.raise e) := by
  obtain ⟨b, -, -, rfl⟩ | ⟨b, -, -, rfl⟩ | ⟨b, -, -, rfl⟩ | ⟨b, -, -, rfl⟩ | ⟨-, -, rfl⟩ | ⟨hs, hp⟩ | ⟨-, rfl⟩ |
    ⟨-, rfl⟩ | ⟨-, rfl⟩ := framerPhase_cases h
  · exact .inl ⟨rfl, rfl, rfl⟩
  · exact .inl ⟨rfl, rfl, rfl⟩
  · exact .inl ⟨rfl, rfl, rfl⟩
  · exact .inl ⟨rfl, rfl, rfl⟩
  · exact .inl ⟨rfl, rfl, rfl⟩
  · obtain ⟨e, rfl⟩ | ⟨-, -, rfl⟩ | ⟨p, -, rfl, -⟩ := execProcess_drops_or_selects hp
    · exact .inr ⟨hs, e, .inl rfl⟩
    · exact .inr ⟨hs, _, .inr rfl⟩
    · exact .inl ⟨rfl, rfl, rfl⟩
  · exact .inl ⟨rfl, rfl, rfl⟩
  · exact .inl ⟨rfl, rfl, rfl⟩
  · exact .inl ⟨rfl, rfl, rfl⟩

/-- At most one counter moves from `s` to `t`, and by one. -/
def CountsAtMostOne (s t : State) : Prop :=
  SameCounters s t ∨
  (t.checksumErrorCount = s.checksumErrorCount + 1 ∧ t.timeoutErrorCount = s.timeoutErrorCount) ∨
  (t.checksumErrorCount = s.checksumErrorCount ∧ t.timeoutErrorCount = s.timeoutErrorCount + 1)

/-- A cycle whose monitor is quiet raises what its Framer phase raises. -/
theorem beginCycle_framer_raises {s t : State} (h : framerPhase s.beginCycle = .next t) :
    CountsAtMostOne s t ∧ (t.events = [] ∨ t.state = .waitAddr ∧ ∃ e, t.events = [e]) := by
  obtain ⟨hevents, hcounters⟩ | ⟨-, e, rfl | rfl⟩ := framerPhase_raises_at_most_one h
  · exact ⟨.inl ⟨hcounters.checksum, hcounters.timeout⟩, .inl hevents⟩
  · exact ⟨.inl ⟨rfl, rfl⟩, .inr ⟨rfl, e, rfl⟩⟩
  · exact ⟨.inr (.inl ⟨rfl, rfl⟩), .inr ⟨rfl, e, rfl⟩⟩

/-- A step raises at most one event and moves at most one counter: a Framer phase that drops a frame ends idle, where
the monitor does not fire, and a monitor that fires first leaves the Framer phase no frame to drop. -/
theorem step_raises {s t : State} (h : step s = .next t) :
    CountsAtMostOne s t ∧ t.events.length ≤ 1 ∧
      (s.cfg.cycleOrder = .framerFirst → t.events ≠ [] → t.state = .waitAddr) := by
  obtain ⟨ho, m, hf, hm⟩ | ⟨ho, ⟨-, hf⟩ | ⟨-, hf⟩⟩ := step_cases h
  · obtain ⟨he, rfl⟩ | ⟨-, rfl⟩ := hm
    · obtain ⟨hevents, hcounters⟩ | ⟨-, e, rfl | rfl⟩ := framerPhase_raises_at_most_one hf
      · refine ⟨.inr (.inr ⟨hcounters.checksum, congrArg add8 hcounters.timeout⟩), ?_, fun _ _ => rfl⟩
        rw [State.raise_events, State.countTimeoutError_events, hevents]
        exact Nat.le_refl 1
      · cases he.symm.trans (expired_idle rfl)
      · cases he.symm.trans (expired_idle rfl)
    · obtain ⟨hcounts, hnone | ⟨hidle, e, he⟩⟩ := beginCycle_framer_raises hf
      · exact ⟨hcounts, by simp [hnone], fun _ hne => absurd hnone hne⟩
      · exact ⟨hcounts, by simp [he], fun _ _ => hidle⟩
  · obtain ⟨hevents, hcounters⟩ | ⟨hs, -⟩ := framerPhase_raises_at_most_one hf
    · exact ⟨.inr (.inr ⟨hcounters.checksum, hcounters.timeout⟩), by simp [hevents], by simp [ho]⟩
    · cases hs
  · obtain ⟨hcounts, hnone | ⟨-, e, he⟩⟩ := beginCycle_framer_raises hf
    · exact ⟨hcounts, by simp [hnone], by simp [ho]⟩
    · exact ⟨hcounts, by simp [he], by simp [ho]⟩

/-- Settles O44: the bytes and the reply, then the counters and the events. -/
theorem cycleBounds : Obligations.CycleBounds := by
  intro s t h
  obtain ⟨hcounts, hlength, hidle⟩ := step_raises h
  have hbytes := step_takes_at_most_one h
  refine ⟨fun htake => ?_, fun htake => ?_, ?_, ?_, ?_, hidle, hlength⟩
  · obtain ⟨h1, hne, htx⟩ | h0 := hbytes
    · exact ⟨h1.count, h1.source, hne, htx⟩
    · cases htake.symm.trans h0.take
  · obtain ⟨h1, -⟩ | h0 := hbytes
    · cases htake.symm.trans h1.take
    · exact ⟨h0.count, h0.source⟩
  all_goals
    obtain ⟨hc, ht⟩ | ⟨hc, ht⟩ | ⟨hc, ht⟩ := hcounts <;> simp [hc, ht]

/-! ### The output ports (44_polling_cycle R208) -/

theorem code_lt (p : Phase) : p.code < 8 := by
  cases p <;> decide

/-- Of `n` ports that show a list of at most `n` entries, the first ones are the list. -/
theorem take_map_getD {α : Type} {l : List α} {n : Nat} (h : l.length ≤ n) (free : Nat → α) :
    ((List.range n).map fun i => (l[i]?).getD (free i)).take l.length = l := by
  refine List.ext_getElem (by simpa using h) fun i _ hi => ?_
  simp [hi]

/-- FRAMER_FIRST: a byte is taken exactly when one is on offer in a receiving phase (20_memory R65). -/
theorem step_rxTake {s t : State} (ho : s.cfg.cycleOrder = .framerFirst) (h : step s = .next t) :
    t.rxTake = (s.state.receiving && s.beginCycle.rxOffer.isSome) := by
  obtain ⟨-, m, hf, hm⟩ | ⟨ho', -⟩ := step_cases h
  · have htake : t.rxTake = m.rxTake := by obtain ⟨-, rfl⟩ | ⟨-, rfl⟩ := hm <;> rfl
    obtain ⟨hs, ⟨b, hb⟩, htaken⟩ | ⟨-, hnone, rfl⟩ | ⟨hs, hkept⟩ := framerPhase_polls hf
    · rw [State.beginCycle_state] at hs
      rw [htake, htaken.take, hs, hb]
      rfl
    · rw [htake, hnone, Option.isSome_none, Bool.and_false]
      rfl
    · rw [State.beginCycle_state] at hs
      rw [htake, hkept.take, hs]
      rfl
  · cases ho.symm.trans ho'

/-- Settles O53: a cycle's output is empty or a reply, which fits the eight byte ports and the four-bit count. -/
theorem portsShowTheCycle : Obligations.PortsShowTheCycle := by
  intro s t h
  have hstep : step s = .next t := h
  have hsize : t.tx.length ≤ 8 := by
    obtain htx | ⟨-, f, hreply, rfl⟩ := step_emits hstep
    · simp [htx]
    · have := hreply.size
      show f.length ≤ 8
      omega
  refine ⟨hstep, rfl, by simp [outPorts], by simp [outPorts], fun hne => ⟨?_, take_map_getD hsize _⟩,
    Nat.mod_eq_of_lt (code_lt _), rfl, rfl, fun ho => step_rxTake ho hstep⟩
  have hnonempty : t.tx.isEmpty = false := by simpa using hne
  simp only [outPorts, hnonempty]
  exact Nat.mod_eq_of_lt (by omega)

/-! ### Runs that take one byte a cycle, every gap within the bound (44_polling_cycle R205) -/

theorem lastTime_append (last : TimeStamp) (l l' : List CycleInput) :
    lastTime last (l ++ l') = lastTime (lastTime last l) l' := by
  induction l generalizing last with
  | nil => rfl
  | cons inp rest ih => exact ih inp.now

/-- The cycles with the inputs `ins` lead from `s` to `t` and take the bytes `l`; the timestamp is then the time of the
last of these cycles. -/
structure TakesInCycles (ins : List CycleInput) (l : List Byte) (s t : State) : Prop where
  run       : runCycles ins.length s = .next t
  takes     : OnlyTakes l s t
  script    : s.script = ins ++ t.script
  timestamp : t.lastActivityTimestamp = lastTime s.lastActivityTimestamp ins

theorem TakesInCycles.nothing (s : State) : TakesInCycles [] [] s s :=
  ⟨rfl, ⟨⟨[], List.append_nil _⟩, rfl, rfl, ⟨rfl, rfl⟩, rfl⟩, rfl, rfl⟩

theorem TakesInCycles.trans {ins ins' : List CycleInput} {l l' : List Byte} {s t u : State}
    (h : TakesInCycles ins l s t) (h' : TakesInCycles ins' l' t u) : TakesInCycles (ins ++ ins') (l ++ l') s u where
  run := by rw [List.length_append, run_add h.run, h'.run]
  takes := h.takes.trans h'.takes
  script := by rw [h.script, h'.script, List.append_assoc]
  timestamp := by rw [h'.timestamp, h.timestamp, lastTime_append]

/-- What stood behind the inputs used is the script now. -/
theorem TakesInCycles.script_rest {ins rest : List CycleInput} {l : List Byte} {s t : State}
    (h : TakesInCycles ins l s t) (hscript : s.script = ins ++ rest) : t.script = rest :=
  List.append_cancel_left (h.script.symm.trans hscript)

/-- One cycle in a receiving phase with a byte waiting and the gap not expired. -/
theorem step_takes_onTime {s t : State} {inp : CycleInput} {more : List CycleInput} {b : Byte} {l : List Byte}
    (hscript : s.script = inp :: more) (he : s.beginCycle.expired = false) (hs : s.state.receiving = true)
    (hsrc : s.rxSource = b :: l) (hf : framerPhase s.beginCycle = .next t) : TakesInCycles [inp] [b] s t := by
  obtain ⟨hstep, htakes⟩ := step_takes (.inr he) hs hsrc hf
  obtain ⟨-, -, hinputs⟩ := framerPhase_receiving_frame (s := s.beginCycle) hs hf
  obtain ⟨-, -, htaken⟩ | ⟨-, hnone, -⟩ | ⟨hsilent, -⟩ := framerPhase_polls hf
  · refine ⟨(run_succ hstep).trans (run_zero t), htakes, ?_, ?_⟩
    · rw [hinputs.script, State.beginCycle_script, hscript]
      rfl
    · rw [htaken.timestamp, State.beginCycle_now, nextInput_cons hscript]
      rfl
  · simp [begin_offer hsrc] at hnone
  · simp [hs] at hsilent

/-- The header of an addressed frame on time: three bytes in three cycles, the first after any silence. -/
theorem takes_header_onTime {s : State} {src len : Byte} {rest : List Byte} {first i j : CycleInput}
    {more : List CycleInput} (hs : s.state = .waitAddr) (hcount : s.byteCount = 0x00)
    (hsrc : s.rxSource = s.cfg.ownAddr :: src :: len :: rest) (hscript : s.script = first :: i :: j :: more)
    (htime : Timely s.cfg.timeoutMs first.now [i, j]) :
    ∃ t, TakesInCycles [first, i, j] [s.cfg.ownAddr, src, len] s t ∧ t.state = .gatherData ∧ t.expectedLen = len ∧
      t.byteCount = 0x00 ∧ t.ignoreFrame = malformedLen len ∧ t.payloadBuffer = s.payloadBuffer ∧
      t.verificationBuffer = [s.cfg.ownAddr, src, len] := by
  obtain ⟨hi, hj, -⟩ := htime
  have htakeA := step_takes_onTime hscript (expired_idle hs) (hs ▸ rfl) hsrc (framer_waitAddr hs (begin_offer hsrc))
  obtain ⟨moreA, hsrcA⟩ := htakeA.takes.rest_waits hsrc
  have hscriptA := htakeA.script_rest hscript
  have heA := begin_timely hscriptA (by rw [htakeA.timestamp, htakeA.takes.cfg]; exact hi)
  have htakeB := step_takes_onTime hscriptA heA rfl hsrcA (framer_getSender rfl (begin_offer hsrcA))
  obtain ⟨moreB, hsrcB⟩ := htakeB.takes.rest_waits hsrcA
  have hscriptB := htakeB.script_rest hscriptA
  have heB := begin_timely hscriptB (by rw [htakeB.timestamp, htakeB.takes.cfg, htakeA.takes.cfg]; exact hj)
  have htakeC := step_takes_onTime hscriptB heB rfl hsrcB (framer_getLen rfl (begin_offer hsrcB))
  refine ⟨_, (htakeA.trans htakeB).trans htakeC, rfl, rfl, hcount, ?_, rfl, ?_⟩
  · simp [foreignAddr]
  · simp [State.verificationBuffer, hcount]

/-- A stored byte is the next byte of the verification buffer. -/
theorem verificationBuffer_store {s t : State} {b : Byte} (hw : s.payloadBuffer.wf = true)
    (hcap : s.byteCount.toNat < bufCap) (hown : t.cfg.ownAddr = s.cfg.ownAddr) (hsender : t.senderAddr = s.senderAddr)
    (hlen : t.expectedLen = s.expectedLen) (hcount : t.byteCount = add8 s.byteCount)
    (hbuffer : t.payloadBuffer = s.payloadBuffer.store s.byteCount.toNat b) :
    t.verificationBuffer = s.verificationBuffer ++ [b] := by
  have hnext : t.byteCount.toNat = s.byteCount.toNat + 1 := by
    rw [hcount, add8_toNat (lt_trans hcap (by decide))]
  have hkept : ∀ i ∈ List.range s.byteCount.toNat, t.payloadBuffer.read i = s.payloadBuffer.read i := fun i hi => by
    rw [hbuffer, Memory.read_store_other (List.mem_range.mp hi).ne]
  rw [verificationBuffer_of_le (hnext ▸ hcap), verificationBuffer_of_le (le_of_lt hcap), hnext, List.range_succ,
    List.map_append, List.map_congr_left hkept, hown, hsender, hlen, List.map_singleton, hbuffer,
    Memory.read_store_same hw hcap, List.append_assoc]

/-- One byte of the body on time: the count goes up, the byte joins the verification buffer, and the phase says whether
the frame is complete (40_framer R124). -/
theorem step_gathers_onTime {s : State} {inp : CycleInput} {more : List CycleInput} {b : Byte} {l : List Byte}
    (hw : s.payloadBuffer.wf = true) (hcap : s.byteCount.toNat < bufCap) (hs : s.state = .gatherData)
    (hsrc : s.rxSource = b :: l) (hscript : s.script = inp :: more)
    (hgap : (subTs inp.now s.lastActivityTimestamp).toNat ≤ s.cfg.timeoutMs.toNat) :
    ∃ t, TakesInCycles [inp] [b] s t ∧ t.payloadBuffer.wf = true ∧ t.expectedLen = s.expectedLen ∧
      t.byteCount = add8 s.byteCount ∧ t.ignoreFrame = s.ignoreFrame ∧
      (t.state = if t.byteCount = t.expectedLen then .processData else .gatherData) ∧
      t.verificationBuffer = s.verificationBuffer ++ [b] :=
  have htake := step_takes_onTime hscript (begin_timely hscript hgap) (hs ▸ rfl) hsrc
    (framer_gatherData hs (begin_offer hsrc))
  ⟨_, htake, Memory.store_wf hw, rfl, rfl, rfl, congrArg (ite _ _) hs,
    verificationBuffer_store hw hcap rfl rfl rfl rfl rfl⟩

/-- The body of an addressed frame on time, by induction on its bytes: while `body` is missing the count is that much
short of the length, and the phase says whether it is. -/
theorem takes_body_onTime {s : State} {body rest : List Byte} {ins more : List CycleInput}
    (hw : s.payloadBuffer.wf = true) (hcap : s.expectedLen.toNat ≤ bufCap)
    (hphase : s.state = if s.byteCount = s.expectedLen then .processData else .gatherData)
    (hcount : s.byteCount.toNat + body.length = s.expectedLen.toNat) (hsrc : s.rxSource = body ++ rest)
    (hscript : s.script = ins ++ more) (hlength : ins.length = body.length)
    (htime : Timely s.cfg.timeoutMs s.lastActivityTimestamp ins) :
    ∃ t, TakesInCycles ins body s t ∧ t.state = .processData ∧ t.ignoreFrame = s.ignoreFrame ∧
      t.byteCount = s.expectedLen ∧ t.verificationBuffer = s.verificationBuffer ++ body := by
  induction body generalizing s ins rest with
  | nil =>
    obtain rfl := List.eq_nil_of_length_eq_zero hlength
    have hfull : s.byteCount = s.expectedLen := BitVec.eq_of_toNat_eq hcount
    exact ⟨s, .nothing s, hphase.trans (if_pos hfull), rfl, hfull, (List.append_nil _).symm⟩
  | cons b body ih =>
    obtain ⟨inp, ins, rfl⟩ := List.exists_cons_of_length_eq_add_one hlength
    obtain ⟨hgap, htime⟩ := htime
    rw [List.length_cons] at hcount
    have hroom : s.byteCount.toNat < bufCap := by omega
    have hgather : s.state = .gatherData := hphase.trans (if_neg fun he => by rw [he] at hcount; omega)
    obtain ⟨u, htake, hw', hlen, hnext, hflag', hphase', hsum'⟩ :=
      step_gathers_onTime hw hroom hgather hsrc hscript hgap
    obtain ⟨arrived, hsrc'⟩ := htake.takes.rest_waits hsrc
    have hcount' : u.byteCount.toNat + body.length = u.expectedLen.toNat := by
      rw [hnext, hlen, add8_toNat (lt_trans hroom (by decide))]
      omega
    have htime' : Timely u.cfg.timeoutMs u.lastActivityTimestamp ins := by
      rw [htake.takes.cfg, htake.timestamp]
      exact htime
    obtain ⟨t, htakes, hdone, hflag, hfull, hsum⟩ := ih hw' (hlen ▸ hcap) hphase' hcount'
      (hsrc'.trans (List.append_assoc _ _ _)) (htake.script_rest hscript) (Nat.succ.inj hlength) htime'
    refine ⟨t, htake.trans htakes, hdone, hflag.trans hflag', hfull.trans hlen, ?_⟩
    rw [hsum, hsum', List.append_assoc]
    rfl

/-- A whole addressed frame on time, from idle: it is gathered, and what PROCESS will sum is the frame. -/
theorem takes_frame_onTime {s : State} {src : Byte} {payload rest : List Byte} {first : CycleInput}
    {ins more : List CycleInput} (hinv : Inv s) (hs : s.state = .waitAddr) (hshort : payload.length + 1 ≤ bufCap)
    (hsrc : s.rxSource = frameBytes s.cfg.ownAddr src payload ++ rest) (hscript : s.script = first :: ins ++ more)
    (hlength : ins.length = payload.length + 3) (htime : Timely s.cfg.timeoutMs first.now ins) :
    ∃ t, TakesInCycles (first :: ins) (frameBytes s.cfg.ownAddr src payload) s t ∧ t.state = .processData ∧
      t.ignoreFrame = false ∧ t.byteCount = lengthField payload ∧
      t.verificationBuffer = frameBytes s.cfg.ownAddr src payload := by
  have hfield : (lengthField payload).toNat = payload.length + 1 :=
    lengthField_toNat (Nat.le_of_succ_le_succ (le_trans hshort (by decide)))
  have hgood : malformedLen (lengthField payload) = false := by
    rw [Bool.eq_false_iff, ne_eq, malformedLen_iff, ← BitVec.toNat_inj, hfield]
    exact not_or_intro (Nat.succ_ne_zero _) (not_lt.mpr hshort)
  obtain ⟨i, ins, rfl⟩ := List.exists_cons_of_length_eq_add_one hlength
  obtain ⟨j, ins, rfl⟩ := List.exists_cons_of_length_eq_add_one (Nat.succ.inj hlength)
  obtain ⟨hi, hj, htime⟩ := htime
  obtain ⟨a, hheader, hstate, hlen, hzero, hflag, hbuffer, hsum⟩ :=
    takes_header_onTime hs (hinv.idle hs).count hsrc hscript ⟨hi, hj, trivial⟩
  obtain ⟨arrived, harrived⟩ := hheader.takes.rest_waits hsrc
  have hsrc' : a.rxSource = (payload ++ [frameChecksum s.cfg.ownAddr src payload]) ++ (rest ++ arrived) :=
    harrived.trans (List.append_assoc _ _ _)
  have hcount : a.byteCount.toNat + (payload ++ [frameChecksum s.cfg.ownAddr src payload]).length =
      a.expectedLen.toNat := by
    rw [hzero, hlen, hfield, List.length_append]
    exact Nat.zero_add _
  have hphase : a.state = if a.byteCount = a.expectedLen then .processData else .gatherData := by
    rw [hstate, if_neg fun he => by rw [← hlen, ← he, hzero] at hfield; cases hfield]
  have htime' : Timely a.cfg.timeoutMs a.lastActivityTimestamp ins := by
    rw [hheader.takes.cfg, hheader.timestamp]
    exact htime
  obtain ⟨t, hbody, hdone, hkept, hfull, hall⟩ := takes_body_onTime (hbuffer ▸ hinv.bufferWf)
    (by rw [hlen, hfield]; exact hshort) hphase hcount hsrc' (hheader.script_rest hscript)
    (by rw [List.length_append]; exact Nat.succ.inj (Nat.succ.inj hlength)) htime'
  refine ⟨t, hheader.trans hbody, hdone, hkept.trans (hflag.trans hgood), hfull.trans hlen, ?_⟩
  rw [hall, hsum, frameBytes, List.append_assoc]

/-! ### A good request is answered (44_polling_cycle R205) -/

/-- PROCESS on a good frame selects the response phase of its command pair (41_validator_dispatcher R144 to R146). -/
theorem process_selects {s : State} {p1 : Byte} (hi : s.ignoreFrame = false)
    (hx : xorAll s.verificationBuffer = 0x00) (h0 : s.payloadBuffer.read 0 = 0x00)
    (h1 : s.payloadBuffer.read 1 = p1) (hle : p1.toNat ≤ 2) :
    ∃ p, p.responding = true ∧ exec .process s = .next (s.goto p) ∧ (p1 = 0x00 → p = .pingResponse) ∧
      (p1 = 0x01 → p = .statusResponse) ∧ (p1 = 0x02 → p = .inputResponse) := by
  obtain ⟨hping, hstatus, hinput⟩ := goodFrameSelectsItsReply s hi hx h0
  obtain rfl | rfl | rfl : p1 = 0x00 ∨ p1 = 0x01 ∨ p1 = 0x02 := by bv_omega
  · exact ⟨.pingResponse, rfl, hping h1, by decide, by decide, by decide⟩
  · exact ⟨.statusResponse, rfl, hstatus h1, by decide, by decide, by decide⟩
  · exact ⟨.inputResponse, rfl, hinput h1, by decide, by decide, by decide⟩

/-- Two cycles answer a gathered frame that PROCESS accepts: the dispatch, then the reply `f` to its sender, both within
the bound; `u` is the state that replies. -/
theorem run_answers {s : State} {p : Phase} {proc resp : CycleInput} {more : List CycleInput}
    (hs : s.state = .processData) (hscript : s.script = proc :: resp :: more)
    (hproc : (subTs proc.now s.lastActivityTimestamp).toNat ≤ s.cfg.timeoutMs.toNat)
    (hresp : (subTs resp.now s.lastActivityTimestamp).toNat ≤ s.cfg.timeoutMs.toNat)
    (hp : p.responding = true) (hselects : exec .process s.beginCycle = .next (s.beginCycle.goto p)) :
    ∃ u f, OnlyTakes [] s u ∧ u.senderAddr = s.senderAddr ∧ u.pin = resp.pin ∧ u.tx = [] ∧
      runCycles 2 s = .next (u.emit f).resetSession ∧ (p = .pingResponse → f = u.pingReply) ∧
      (p = .statusResponse → f = u.statusReply) ∧ (p = .inputResponse → f = u.inputReply) := by
  have hscript' : (s.beginCycle.goto p).script = resp :: more := congrArg List.tail hscript
  have hquiet : (s.beginCycle.goto p).expired = false := by
    refine expired_within_bound ?_
    rw [State.goto_now, State.beginCycle_now, nextInput_cons hscript]
    exact hproc
  have hframer : framerPhase s.beginCycle = .next (s.beginCycle.goto p) :=
    (framer_processData (s := s.beginCycle) hs).trans hselects
  have hdispatch := step_quiet (begin_timely hscript hproc) hframer hquiet
  obtain ⟨f, hf, hreply⟩ := framer_responds (s := (s.beginCycle.goto p).beginCycle) hp
  have hanswer := step_quiet (begin_timely hscript' hresp) hf (expired_idle rfl)
  exact ⟨(s.beginCycle.goto p).beginCycle, f, ⟨⟨_, (List.append_assoc _ _ _).symm⟩, rfl, rfl, ⟨rfl, rfl⟩, rfl⟩, rfl,
    congrArg CycleInput.pin (nextInput_cons hscript'), rfl,
    (run_succ hdispatch).trans ((run_succ hanswer).trans (run_zero _)), hreply⟩

/-- The cells that a gathered frame fills are its payload and checksum (41_validator_dispatcher R141). -/
theorem cell_of_verificationBuffer {s : State} {i : Nat} {b : Byte} (hi : i < s.byteCount.toNat) (hcap : i < bufCap)
    (h : s.verificationBuffer[i + 3]? = some b) : s.payloadBuffer.read i = b := by
  rw [verificationBuffer_cell hi, load_cell hcap] at h
  exact Option.some.inj h

/-- A request `0 p1 …` on time, from idle: it is gathered and PROCESS is about to select the response phase of `p1`. -/
theorem takes_request_onTime {s : State} {src p1 : Byte} {extra rest : List Byte} {first : CycleInput}
    {ins more : List CycleInput} (hinv : Inv s) (hs : s.state = .waitAddr) (hextra : extra.length ≤ 29)
    (hp1 : p1.toNat ≤ 2) (hsrc : s.rxSource = frameBytes s.cfg.ownAddr src (0x00 :: p1 :: extra) ++ rest)
    (hscript : s.script = first :: ins ++ more) (hlength : ins.length = extra.length + 5)
    (htime : Timely s.cfg.timeoutMs first.now ins) :
    ∃ t p, TakesInCycles (first :: ins) (frameBytes s.cfg.ownAddr src (0x00 :: p1 :: extra)) s t ∧
      t.state = .processData ∧ t.senderAddr = src ∧ p.responding = true ∧
      exec .process t.beginCycle = .next (t.beginCycle.goto p) ∧ (p1 = 0x00 → p = .pingResponse) ∧
      (p1 = 0x01 → p = .statusResponse) ∧ (p1 = 0x02 → p = .inputResponse) := by
  have hsize : (0x00 :: p1 :: extra : List Byte).length = extra.length + 2 := rfl
  have hshort : (0x00 :: p1 :: extra : List Byte).length + 1 ≤ bufCap := by
    rw [hsize, bufCap]
    omega
  obtain ⟨t, hframe, hdone, hflag, hcount, hsum⟩ := takes_frame_onTime hinv hs hshort hsrc hscript hlength htime
  have hfield : t.byteCount.toNat = extra.length + 3 := by
    rw [hcount, lengthField_toNat (by omega), hsize]
  have hgood : xorAll t.beginCycle.verificationBuffer = 0x00 := by
    rw [verificationBuffer_begin (by omega), hsum, frameBytes_xor]
  have h0 : t.payloadBuffer.read 0 = 0x00 := cell_of_verificationBuffer (by omega) (by decide) (by rw [hsum]; rfl)
  have h1 : t.payloadBuffer.read 1 = p1 := cell_of_verificationBuffer (by omega) (by decide) (by rw [hsum]; rfl)
  have hsender : t.verificationBuffer[1]? = some src := by
    rw [hsum]
    rfl
  obtain ⟨p, hp⟩ := process_selects (s := t.beginCycle) hflag hgood h0 h1 hp1
  exact ⟨t, p, hframe, hdone, Option.some.inj hsender, hp⟩

/-- Settles O57: the request is gathered on time, and two more cycles dispatch and answer it. -/
theorem goodRequestIsAnswered : Obligations.GoodRequestIsAnswered := by
  intro s src p1 extra rest first ins proc resp more hinv hs hextra hp1 hsrc hscript hlength htime hproc hresp
  obtain ⟨g, p, hframe, hdone, hsender, hp, hselects, hping, hstatus, hinput⟩ :=
    takes_request_onTime hinv hs hextra hp1 hsrc hscript hlength htime
  obtain ⟨u, f, hanswer, hsame, hpin, htx, hrun, hfping, hfstatus, hfinput⟩ := run_answers hdone
    (hframe.script_rest hscript) (by rw [hframe.timestamp, hframe.takes.cfg]; exact hproc)
    (by rw [hframe.timestamp, hframe.takes.cfg]; exact hresp) hp hselects
  obtain ⟨-, htaken, hsink, ⟨hchecksum, htimeout⟩, hcfg⟩ := hframe.takes.trans hanswer
  obtain ⟨hpingFrame, hstatusFrame, hinputFrame⟩ := repliesAreFrames u
  rw [hcfg, hsame, hsender] at hpingFrame hstatusFrame hinputFrame
  rw [hchecksum, htimeout] at hstatusFrame
  rw [hpin] at hinputFrame
  have hcycles : (first :: ins).length + 2 = extra.length + 8 := by rw [List.length_cons, hlength]
  have htx : (u.emit f).resetSession.tx = f := congrArg (· ++ f) htx
  refine ⟨(u.emit f).resetSession, hcycles ▸ (run_add hframe.run).trans hrun, rfl, ?_, ⟨hchecksum, htimeout⟩, ?_,
    fun h => ?_, fun h => ?_, fun h => ?_⟩
  · rw [htx, ← hsink]
    rfl
  · rw [State.resetSession_bytesTaken, State.emit_bytesTaken, htaken, List.append_nil, frameBytes_length]
    rfl
  · rw [htx, hfping (hping h), hpingFrame]
  · rw [htx, hfstatus (hstatus h), hstatusFrame]
  · rw [htx, hfinput (hinput h), hinputFrame]

end Sys2Proof.Machine

/-! ## The exceptions family: which operation raises which error, and how every error is taken -/

namespace Sys2Proof.Machine

open Sys2Proof

/-! ### One operation raises nothing, or one error with its cause (60_exceptions R220, R227) -/

/-- The counter of an error, where it has one (60_exceptions R221, R222), is moved before the error is raised. -/
def State.countError (s : State) : Event → State
  | .checksumMismatch => s.countChecksumError
  | .frameTimeout => s.countTimeoutError
  | .malformedLength | .foreignAddress | .unknownCommand => s

/-- The operation and the condition that raise an error (60_exceptions R220); the tests of PROCESS stand in the order
of 41_validator_dispatcher R139. -/
def ErrorCause (i : Instr) (s : State) : Event → Prop
  | .frameTimeout => i = .timeoutCheck ∧ s.expired = true
  | .checksumMismatch => i = .process ∧ s.ignoreFrame = false ∧ xorAll s.verificationBuffer ≠ 0x00
  | .malformedLength =>
    i = .process ∧ s.ignoreFrame = true ∧ (s.expectedLen = 0x00 ∨ bufCap < s.expectedLen.toNat)
  | .foreignAddress =>
    i = .process ∧ s.ignoreFrame = true ∧ s.expectedLen ≠ 0x00 ∧ s.expectedLen.toNat ≤ bufCap
  | .unknownCommand =>
    (i = .process ∧ s.ignoreFrame = false ∧ xorAll s.verificationBuffer = 0x00 ∧
      definedPair (s.payloadBuffer.read 0) (s.payloadBuffer.read 1) = false) ∨
    ∃ p0 p1, i = .unknown p0 p1

/-- The outcome of one operation with regard to errors. -/
def RaisesNothingOrOne (i : Instr) (s t : State) : Prop :=
  t.events = s.events ∨ ∃ e, ErrorCause i s e ∧ t = (s.countError e).raise e

theorem malformedLen_eq_false_iff (len : Byte) :
    malformedLen len = false ↔ len ≠ 0x00 ∧ len.toNat ≤ bufCap := by
  rw [← Bool.not_eq_true, malformedLen_iff, not_or, not_lt]

theorem process_raises {s t : State} (h : execProcess s = .next t) : RaisesNothingOrOne .process s t := by
  obtain ⟨hi, hm, rfl⟩ | ⟨hi, hm, rfl⟩ | ⟨hi, hx, rfl⟩ |
    ⟨hi, hx, ⟨-, -, rfl⟩ | ⟨-, -, rfl⟩ | ⟨-, -, rfl⟩ | ⟨hpair, rfl⟩⟩ := execProcess_next h
  · exact .inr ⟨.malformedLength, ⟨rfl, hi, (malformedLen_iff _).mp hm⟩, rfl⟩
  · exact .inr ⟨.foreignAddress, ⟨rfl, hi, (malformedLen_eq_false_iff _).mp hm⟩, rfl⟩
  · exact .inr ⟨.checksumMismatch, ⟨rfl, hi, hx⟩, rfl⟩
  · exact .inl rfl
  · exact .inl rfl
  · exact .inl rfl
  · exact .inr ⟨.unknownCommand, .inl ⟨rfl, hi, hx, hpair⟩, rfl⟩

theorem timeoutCheck_raises {s t : State} (h : monitorPhase s = .next t) :
    RaisesNothingOrOne .timeoutCheck s t := by
  obtain ⟨he, rfl⟩ | ⟨-, rfl⟩ := monitorPhase_cases h
  · exact .inr ⟨.frameTimeout, ⟨rfl, he⟩, rfl⟩
  · exact .inl rfl

/-- Only PROCESS, TIMEOUT_CHECK and UNKNOWN raise; every other operation leaves the events alone. -/
theorem exec_raises {i : Instr} {s t : State} (h : exec i s = .next t) : RaisesNothingOrOne i s t := by
  cases i
  case process => exact process_raises h
  case timeoutCheck => exact timeoutCheck_raises h
  case unknown p0 p1 => cases h; exact .inr ⟨.unknownCommand, .inr ⟨p0, p1, rfl⟩, rfl⟩
  all_goals cases h; exact .inl rfl

/-! ### How an error is taken (60_exceptions R228) -/

theorem countError_raise_events (s : State) (e : Event) : ((s.countError e).raise e).events = s.events ++ [e] := by
  cases e <;> rfl

/-- Whatever the error, the session is cleared, sink, byte source and inputs stay, and only its own counter moves. -/
theorem countError_raise_frame (s : State) (e : Event) :
    let t := (s.countError e).raise e
    SessionCleared t ∧ NothingEmitted s t ∧ NoByteTaken s t ∧ SameInputs s t ∧
      t.checksumErrorCount = (if e = .checksumMismatch then s.checksumErrorCount + 1 else s.checksumErrorCount) ∧
      t.timeoutErrorCount = (if e = .frameTimeout then s.timeoutErrorCount + 1 else s.timeoutErrorCount) := by
  refine ⟨raise_cleared _ _, ?_⟩
  cases e <;> exact ⟨⟨rfl, rfl⟩, ⟨rfl, rfl, rfl, rfl⟩, ⟨rfl, rfl, rfl, rfl, rfl⟩, rfl, rfl⟩

/-- Settles O40: the event added is the error raised, and every error is counted and raised alike. -/
theorem everyErrorIsTakenAlike : Obligations.EveryErrorIsTakenAlike := by
  intro i s t e h hevents
  obtain hnone | ⟨e', -, rfl⟩ := exec_raises h
  · simp [hnone] at hevents
  · rw [countError_raise_events] at hevents
    obtain rfl : e' = e := by simpa using hevents
    exact countError_raise_frame s e'

/-- Settles O41: an operation that changes the events raised one error, and its cause is the clause of that error. -/
theorem errorsHaveTheirCauses : Obligations.ErrorsHaveTheirCauses := by
  intro i s t h hne
  obtain hnone | ⟨e, hcause, rfl⟩ := exec_raises h
  · exact absurd hnone hne
  · refine ⟨e, countError_raise_events s e, ?_, ?_, ?_, ?_, ?_⟩ <;>
    · rintro rfl
      exact hcause

end Sys2Proof.Machine

/-! ## The reset family: a clock edge with `rst` -/

namespace Sys2Proof.Machine

open Sys2Proof

/-- `rst` has priority over `step_en` (70_reset_and_hazards R250). -/
@[simp] theorem clockEdge_rst (en : Bool) (s : State) : clockEdge true en s = .next s.hardReset := rfl

theorem hardReset_cleared (s : State) : SessionCleared s.hardReset :=
  ⟨rfl, rfl, rfl, rfl, rfl, fun _ => rfl⟩

/-- Where the spec is silent on the environment at a reset edge, the model lets it wait (log entries 13 and 21). -/
theorem hardReset_sameInputs (s : State) : SameInputs s s.hardReset :=
  ⟨rfl, rfl, rfl, rfl, rfl⟩

/-- Settles O52: the edge is the hard reset, which clears the session; the other registers are read off. -/
theorem resetEdgeResetsEveryRegister : Obligations.ResetEdgeResetsEveryRegister := fun s en =>
  ⟨s.hardReset, clockEdge_rst en s, hardReset_cleared s, rfl, rfl, rfl, rfl, rfl, rfl, rfl, rfl,
    hardReset_sameInputs s⟩

end Sys2Proof.Machine
